-- ==== Sys2Proof/Word.lean ====
section
/-! DEFINITION. The words the VH2460 moves: 16-bit Plant Image words, bytes on a link, 10-bit word
addresses and 32-bit clock values (spec/00_scope.md 4.1, 4.4). -/

namespace Sys2Proof

/-- A Plant Image word (00 section 4.4). -/
abbrev Word := BitVec 16

/-- A byte on a link (chapter 10). -/
abbrev Byte := BitVec 8

/-- A Plant Image word address, 0x000..0x3FF (00 section 4.4). -/
abbrev Addr := BitVec 10

/-- A Station Clock value in seconds (00 section 4.1). -/
abbrev Clock := BitVec 32

end Sys2Proof
end

