-- ==== Sys2Proof/Config.lean ====
section
/-! DEFINITION. The values the spec leaves free. Each is an opaque constant without a body, so no
proof can see which value it has. -/

namespace Sys2Proof.Config

/-- What the Obstruction Count becomes when an obstruction is counted at 255, the end of the range
that 8.1 gives the field. R135 says only that the count increases by 1. DESIGN CHOICE, log 9. -/
opaque obstructionCountPast255 : BitVec 8

/-- Which of the things that are due the part takes next in the idle step ("either may be taken
first"), for each draw. DESIGN CHOICE, log 3. -/
opaque nextDue : Nat → Nat

/-- The levels the eight current-sense inputs present at a check position that the idle step
reaches by itself, for each draw: they are inputs from outside. DESIGN CHOICE, log 3. -/
opaque senseLevels : Nat → BitVec 8

end Sys2Proof.Config
end

