-- ==== Sys2Proof/Syntax.lean ====
section
/-! DEFINITION. The names of the parts of the VH2460 and its commands: one constructor of `Instr` for
each row of spec/opcode_table.json, with the row's operands. -/

namespace Sys2Proof

/-- The two serial links (00 section 2). -/
inductive Link where
  | a
  | b
  deriving DecidableEq, Repr

/-- The four pumps; pump number `p + 1` (00 section 4.3). -/
abbrev PumpId := Fin 4

/-- The four pumping stages; stage number `k + 1`. -/
abbrev StageId := Fin 4

/-- The six lamp groups; group number `g + 1`. -/
abbrev GroupId := Fin 6

/-- The eight signal channels; channel number `n + 1` (05 section 5.1). -/
abbrev SignalId := Fin 8

/-- The five floats (01 section 1.4). -/
inductive FloatId where
  | dry
  | stop
  | high
  | highHigh
  | roadFlood
  deriving DecidableEq, Repr

/-- The five measurement channels, in their fixed order (01 section 1.2.1). -/
inductive ChannelId where
  | sumpA
  | sumpB
  | carriageway
  | river
  | luminance
  deriving DecidableEq, Repr

/-- The two road barriers; barrier 1 stands at approach 1 (06 section 6.1). -/
inductive Barrier where
  | one
  | two
  deriving DecidableEq, Repr

/-- The three gate drives (06 section 6.1). -/
inductive DriveId where
  | barrier (b : Barrier)
  | penstock
  deriving DecidableEq, Repr

/-- The seven authority units (09 section 9.1). -/
inductive UnitId where
  | pump (p : PumpId)
  | penstock
  | road
  | lighting
  deriving DecidableEq, Repr

/-- The four push-buttons of the Hand Panel (09 section 9.2). -/
inductive PanelButton where
  | close
  | reopen
  | faultReset
  | lampTest
  deriving DecidableEq, Repr

/-- Every discrete input that passes through input qualification (00 section 4.5, 01 section 1.1). -/
inductive InputId where
  | float (f : FloatId)
  | runProven (p : PumpId)
  | tripped (p : PumpId)
  | sealWarning (p : PumpId)
  | mainsHealthy
  | generatorOnLoad
  | driverFault (g : GroupId)
  | upLimit (d : DriveId)
  | downLimit (d : DriveId)
  | obstruction (b : Barrier)
  | torque
  | keyHand (p : PumpId)
  | keyOff (p : PumpId)
  | penstockKey
  | roadKey
  | button (b : PanelButton)
  deriving DecidableEq, Repr

/-- The two channels of the penstock's quadrature encoder (06 section 6.5). -/
inductive EncoderChannel where
  | a
  | b
  deriving DecidableEq, Repr

/-- What an edge of a pulse line brings for its stamp (R3; log 4): nothing of its own. The edge is taken as
it arrives, and the part stamps it with the timebase value of that moment. -/
inductive EdgeStamp where
  | onArrival
  deriving DecidableEq, Repr

/-- How much of a frame a command stands for (R162; log 8): all of it, from the assertion of select to its
release; its beginning, with select left asserted; some bytes more of the frame that is open; its end. -/
inductive FramePart where
  | whole
  | first
  | middle
  | last
  deriving DecidableEq, Repr

/-- What a frame's command names: the link, and how much of the frame the command stands for. -/
structure Frame where
  link : Link
  part : FramePart
  deriving DecidableEq, Repr

/-- The commands: one constructor for each row of spec/opcode_table.json.

A frame's operands are its link and part (`Frame`), and what follows the command byte in that part: the
whole bytes shifted in (`bytes`), or, where only their number matters, that number (`n`). An applied word's
operands are the writing link and what the word names. -/
inductive Instr where
  /-- POWER_ON (R182). -/
  | powerOn
  /-- RESET_PIN (R181). -/
  | resetPin
  /-- RESET_RELEASE (R181). -/
  | resetRelease
  /-- START_UP_COMPLETE (R181): whether the NV copy could be read (R176), and the levels of encoder
  channels A and B at this moment (R116). -/
  | startUpComplete (nvReadable encA encB : Bool)
  /-- INPUT_PIN_CHANGE (R1): the pin of input `i` goes to `level`. -/
  | inputPinChange (i : InputId) (level : Bool)
  /-- DEBOUNCE_TIMER_EXPIRY (R1). -/
  | debounceTimerExpiry (i : InputId)
  /-- PULSE_RISING_EDGE (R3). -/
  | pulseRisingEdge (c : ChannelId) (stamp : EdgeStamp)
  /-- PULSE_FALLING_EDGE (R3). -/
  | pulseFallingEdge (c : ChannelId) (stamp : EdgeStamp)
  /-- SAMPLE_TIMER_EXPIRY (R13). -/
  | sampleTimerExpiry (c : ChannelId)
  /-- WINDOW_TIMER_EXPIRY (R20). -/
  | windowTimerExpiry
  /-- STATION_CLOCK_SECOND (R48). -/
  | stationClockSecond
  /-- START_PROOF_EXPIRY (R27). -/
  | startProofExpiry (p : PumpId)
  /-- MIN_RUN_EXPIRY (R28). -/
  | minRunExpiry (p : PumpId)
  /-- STOP_PROOF_EXPIRY (R30). -/
  | stopProofExpiry (p : PumpId)
  /-- MIN_REST_EXPIRY (R31). -/
  | minRestExpiry (p : PumpId)
  /-- SETTLE_TIMER_EXPIRY (R51). -/
  | settleTimerExpiry
  /-- STAGGER_TIMER_EXPIRY (R58). -/
  | staggerTimerExpiry
  /-- HOLD_TIMER_EXPIRY (R68). -/
  | holdTimerExpiry
  /-- LOAD_EVALUATION (R54). -/
  | loadEvaluation
  /-- LIGHTING_PERIOD_BOUNDARY (R73). -/
  | lightingPeriodBoundary
  /-- LIGHTING_DWELL_TIMER_EXPIRY (R79). -/
  | lightingDwellTimerExpiry
  /-- FLASH_CYCLE_WRAP (R88). -/
  | flashCycleWrap
  /-- CHECK_POSITION (R92): the counter reaches `pos`, and the current-sense input of channel
  `n + 1` presents bit `n` of `sense` at that instant. -/
  | checkPosition (pos : Word) (sense : BitVec 8)
  /-- DWELL_TIMER_EXPIRY (R101). -/
  | dwellTimerExpiry (d : DriveId)
  /-- TRAVEL_TIMER_EXPIRY (R103). -/
  | travelTimerExpiry (d : DriveId)
  /-- STALL_TIMER_EXPIRY (R113). -/
  | stallTimerExpiry
  /-- ACCEPTED_EDGE (R109): exactly this encoder channel has changed. -/
  | acceptedEdge (e : EncoderChannel)
  /-- DOUBLE_TRANSITION (R110). -/
  | doubleTransition
  /-- OPEN_DELAY_TIMER_EXPIRY (R119). -/
  | openDelayTimerExpiry
  /-- CONFIRM_TIMER_EXPIRY (R129). -/
  | confirmTimerExpiry
  /-- ALERT_TIMER_EXPIRY (R132). -/
  | alertTimerExpiry
  /-- CLEARANCE_TIMER_EXPIRY (R133). -/
  | clearanceTimerExpiry
  /-- CLEAR_WAIT_TIMER_EXPIRY (R135). -/
  | clearWaitTimerExpiry (b : Barrier)
  /-- SILENCE_TIMER_EXPIRY (R161). -/
  | silenceTimerExpiry (k : Link)
  /-- NV_WRITE_COMPLETE (R179), with its outcome. -/
  | nvWriteComplete (ok : Bool)
  /-- INVALID_FRAME (R162): the undefined command byte and how many whole bytes are shifted after it, or
  `none` where it is incomplete (select has been asserted and fewer than eight bits have been shifted). -/
  | invalidFrame (f : Frame) (cmd : Option (Byte × Nat))
  /-- STATUS (R164), with `n` whole bytes shifted after the command byte. -/
  | status (f : Frame) (n : Nat)
  /-- ACK_RESTART (R160), with `n` whole bytes shifted after the command byte. -/
  | ackRestart (f : Frame) (n : Nat)
  /-- HARD_RESET (R164), with `n` whole bytes shifted after the command byte. -/
  | hardReset (f : Frame) (n : Nat)
  /-- SET_POINTER_READ (R165), with the bytes shifted in after the command byte. -/
  | setPointerRead (f : Frame) (bytes : List Byte)
  /-- SET_POINTER_WRITE (R165), with the bytes shifted in after the command byte. -/
  | setPointerWrite (f : Frame) (bytes : List Byte)
  /-- SET_MODE (R165), with the bytes shifted in after the command byte. -/
  | setMode (f : Frame) (bytes : List Byte)
  /-- READ_INC (R166), with `n` whole bytes shifted after the command byte. -/
  | readInc (f : Frame) (n : Nat)
  /-- READ_FIXED (R166), with `n` whole bytes shifted after the command byte. -/
  | readFixed (f : Frame) (n : Nat)
  /-- READ_RECORD (R166), with `n` whole bytes shifted after the command byte. -/
  | readRecord (f : Frame) (n : Nat)
  /-- WRITE_INC (R167), with the bytes shifted in after the command byte. -/
  | writeInc (f : Frame) (bytes : List Byte)
  /-- WRITE_FIXED (R167), with the bytes shifted in after the command byte. -/
  | writeFixed (f : Frame) (bytes : List Byte)
  /-- READ_ONLY_OR_UNMAPPED_WRITE (R184): an applied word of any address and value that no other
  row names. -/
  | readOnlyOrUnmappedWrite (k : Link) (addr : Addr) (value : Word)
  /-- TAKE (R149). -/
  | take (k : Link) (u : UnitId)
  /-- RELEASE (R150). -/
  | release (k : Link) (u : UnitId)
  /-- PUMP_DEMAND_RUN (R25). -/
  | pumpDemandRun (k : Link) (p : PumpId)
  /-- PUMP_DEMAND_STOP (R25). -/
  | pumpDemandStop (k : Link) (p : PumpId)
  /-- ACTION_HOLD (R123). -/
  | actionHold (k : Link)
  /-- ACTION_OPEN (R123). -/
  | actionOpen (k : Link)
  /-- ACTION_CLOSED (R123). -/
  | actionClosed (k : Link)
  /-- ACTION_POSITION (R123). -/
  | actionPosition (k : Link)
  /-- POSITION_WORD (R123). -/
  | positionWord (k : Link) (value : Word)
  /-- ROAD_DEMAND_NONE (R141). -/
  | roadDemandNone (k : Link)
  /-- CLOSE (R141). -/
  | close (k : Link)
  /-- REOPEN (R139). -/
  | reopen (k : Link)
  /-- RESUME (R137). -/
  | resume (k : Link)
  /-- MODE_FOLLOW_STAGE (R76). -/
  | modeFollowStage (k : Link)
  /-- MODE_FIXED (R76). -/
  | modeFixed (k : Link)
  /-- DUTY_WORD (R76). -/
  | dutyWord (k : Link) (g : GroupId) (value : Word)
  /-- CLEAR (R156). -/
  | clear (k : Link) (u : UnitId)
  /-- EVENT_ACKNOWLEDGE (R172). -/
  | eventAcknowledge (k : Link) (seq : Word)
  /-- OPEN_EDIT (R177). -/
  | openEdit (k : Link)
  /-- ABANDON (R177). -/
  | abandon (k : Link)
  /-- COMMIT (R178). -/
  | commit (k : Link)
  /-- STAGING_WORD (R177). -/
  | stagingWord (k : Link) (offset : BitVec 8) (value : Word)
  deriving DecidableEq, Repr

end Sys2Proof
end

