-- ==== Sys2Proof/Decode.lean ====
section
/-! DEFINITION. The table gives no row any bits, so `decodeTableWord` reads no command. What the spec
does number is read here: the link command codes (12.5) and the addresses and values of applied words
(12.1, 12.3). -/

namespace Sys2Proof

/-- No row of spec/opcode_table.json has bits, so no word spells a command. -/
def decodeTableWord (_nbits _w : Nat) : Option Instr := none

/-- The codes of the defined link commands (12.5). -/
def isDefinedCommand (c : Byte) : Bool :=
  c = 0x01 || c = 0x02 || c = 0x5A || c = 0x10 || c = 0x11 || c = 0x12 || c = 0x20 || c = 0x21
    || c = 0x22 || c = 0x30 || c = 0x31

/-- The part begins with the assertion of select. -/
def FramePart.begins : FramePart → Bool
  | .whole | .first => true
  | .middle | .last => false

/-- The part ends with the release of select. -/
def FramePart.ends : FramePart → Bool
  | .whole | .last => true
  | .first | .middle => false

/-- The index of a unit, 1..7 (09 section 9.1). -/
def UnitId.index : UnitId → Nat
  | .pump p => p.val + 1
  | .penstock => 5
  | .road => 6
  | .lighting => 7

/-- The unit of index `i + 1`; past the last unit, LIGHTING. -/
def unitAt (i : Nat) : UnitId :=
  if h : i < 4 then .pump ⟨i, h⟩ else if i = 4 then .penstock else if i = 5 then .road else .lighting

/-- The authority word of a unit (12.1). -/
def authorityAddr (u : UnitId) : Addr := BitVec.ofNat 10 (0x13F + u.index)

/-- The demand word of a pump (12.1). -/
def pumpDemandAddr (p : PumpId) : Addr := BitVec.ofNat 10 (0x148 + p.val)

/-- The duty word of a lamp group (12.1). -/
def dutyAddr (g : GroupId) : Addr := BitVec.ofNat 10 (0x151 + g.val)

/-- The Fault Clear word of a unit (12.1). -/
def faultClearAddr (u : UnitId) : Addr := BitVec.ofNat 10 (0x157 + u.index)

/-- A word of Profile Staging (12.4). -/
def stagingAddr (offset : BitVec 8) : Addr := BitVec.ofNat 10 (0x300 + offset.toNat)

/-- The word that a row of the table applies: writing link, address and value (12.1, 12.3). -/
def appliedWord : Instr → Option (Link × Addr × Word)
  | .readOnlyOrUnmappedWrite k a v => some (k, a, v)
  | .take k u => some (k, authorityAddr u, 1)
  | .release k u => some (k, authorityAddr u, 2)
  | .pumpDemandRun k p => some (k, pumpDemandAddr p, 1)
  | .pumpDemandStop k p => some (k, pumpDemandAddr p, 0)
  | .actionHold k => some (k, 0x14C, 0)
  | .actionOpen k => some (k, 0x14C, 1)
  | .actionClosed k => some (k, 0x14C, 2)
  | .actionPosition k => some (k, 0x14C, 3)
  | .positionWord k v => some (k, 0x14D, v)
  | .roadDemandNone k => some (k, 0x14E, 0)
  | .close k => some (k, 0x14E, 1)
  | .reopen k => some (k, 0x14E, 2)
  | .resume k => some (k, 0x14E, 3)
  | .modeFollowStage k => some (k, 0x150, 0)
  | .modeFixed k => some (k, 0x150, 1)
  | .dutyWord k g v => some (k, dutyAddr g, v)
  | .clear k u => some (k, faultClearAddr u, 1)
  | .eventAcknowledge k v => some (k, 0x196, v)
  | .openEdit k => some (k, 0x1A0, 1)
  | .abandon k => some (k, 0x1A0, 2)
  | .commit k => some (k, 0x1A0, 3)
  | .stagingWord k o v => some (k, stagingAddr o, v)
  | _ => none

/-- The row that names an applied word (12.1, 12.3). A word that no other row names (a read-only or
unmapped address, or an enumerated word with a value that is not among its written values) is
READ_ONLY_OR_UNMAPPED_WRITE (R184). -/
def rowOfWord (k : Link) (a : Addr) (v : Word) : Instr :=
  let n := a.toNat
  let w := v.toNat
  let other := Instr.readOnlyOrUnmappedWrite k a v
  if 0x300 ≤ n then .stagingWord k (BitVec.ofNat 8 (n - 0x300)) v
  else if 0x140 ≤ n ∧ n ≤ 0x146 then
    if w = 1 then .take k (unitAt (n - 0x140)) else if w = 2 then .release k (unitAt (n - 0x140)) else other
  else if h : 0x148 ≤ n ∧ n ≤ 0x14B then
    let p : PumpId := ⟨n - 0x148, by omega⟩
    if w = 0 then .pumpDemandStop k p else if w = 1 then .pumpDemandRun k p else other
  else if n = 0x14C then
    if w = 0 then .actionHold k else if w = 1 then .actionOpen k
    else if w = 2 then .actionClosed k else if w = 3 then .actionPosition k else other
  else if n = 0x14D then .positionWord k v
  else if n = 0x14E then
    if w = 0 then .roadDemandNone k else if w = 1 then .close k
    else if w = 2 then .reopen k else if w = 3 then .resume k else other
  else if n = 0x150 then
    if w = 0 then .modeFollowStage k else if w = 1 then .modeFixed k else other
  else if h : 0x151 ≤ n ∧ n ≤ 0x156 then .dutyWord k ⟨n - 0x151, by omega⟩ v
  else if 0x158 ≤ n ∧ n ≤ 0x15E then
    if w = 1 then .clear k (unitAt (n - 0x158)) else other
  else if n = 0x196 then .eventAcknowledge k v
  else if n = 0x1A0 then
    if w = 1 then .openEdit k else if w = 2 then .abandon k else if w = 3 then .commit k else other
  else other

end Sys2Proof
end

