-- ==== Sys2Proof/Machine/Builtin.lean ====
section
/-! DEFINITION. The BUILTIN profile (the Built-in columns of chapters 1 to 10) laid out by the offsets
of 12.4; spare offsets read 0. -/

namespace Sys2Proof.Machine

/-- The built-in words of offsets 0x00..0x0F: debounce, sump, station, supply, link, flash, lighting period. -/
def builtinStation : List Word :=
  [200, 50, 200, 30, 9999, 0, 2, 10, 10, 65535, 65535, 0, 5, 10, 1000, 2000]

/-- The built-in words of one channel (1.2.1). -/
def builtinChannel : List Word := [1000, 16000, 20000, 0, 500, 18000, 2, 0, 1000]

/-- The built-in words of one pump (2.1), with its spare word. -/
def builtinPump : List Word := [1, 0, 10, 10, 60, 60, 6, 0]

/-- The built-in words of lamp group `g` (4.1); its Priority is its number. -/
def builtinGroup (g : Word) : List Word := [0, 1000, g, 0, 1]

/-- The built-in words of one lighting stage (4.1). -/
def builtinStage : List Word := [0, 1000, 1000, 1000, 1000, 1000, 1000]

/-- Offsets 0x00..0x3F: station words, five channels, three spare words. -/
def builtinLow : List Word :=
  builtinStation ++ builtinChannel ++ builtinChannel ++ builtinChannel ++ builtinChannel
    ++ builtinChannel ++ [0, 0, 0]

/-- Offsets 0x40..0x77: the two stage sets (built-in 0), four pumps, stage words and spares. -/
def builtinPumps : List Word :=
  List.replicate 16 0 ++ builtinPump ++ builtinPump ++ builtinPump ++ builtinPump
    ++ [1, 50, 60, 0, 0, 0, 0, 0]

/-- Offsets 0x78..0xCF: six lamp groups, two spares, eight lighting stages. -/
def builtinLighting : List Word :=
  builtinGroup 1 ++ builtinGroup 2 ++ builtinGroup 3 ++ builtinGroup 4 ++ builtinGroup 5
    ++ builtinGroup 6 ++ [0, 0] ++ builtinStage ++ builtinStage ++ builtinStage ++ builtinStage
    ++ builtinStage ++ builtinStage ++ builtinStage ++ builtinStage

/-- Offsets 0xD0..0xFF: gates, outfall, closure and spares. -/
def builtinRoad : List Word :=
  [200, 20, 120, 40000, 200, 500, 5, 0, 50, 150, 300, 0, 0, 0, 0, 0,
    150, 50, 10, 40000, 20, 30, 10, 3] ++ List.replicate 24 0

theorem builtinLow_length : builtinLow.length = 64 := rfl

theorem builtinPumps_length : builtinPumps.length = 56 := rfl

theorem builtinLighting_length : builtinLighting.length = 88 := rfl

theorem builtinRoad_length : builtinRoad.length = 48 := rfl

/-- The 256 words of the BUILTIN profile (12.4). -/
def builtinWords : Vector Word 256 :=
  ⟨(builtinLow ++ builtinPumps ++ builtinLighting ++ builtinRoad).toArray, by
    simp [builtinLow_length, builtinPumps_length, builtinLighting_length, builtinRoad_length]⟩

end Sys2Proof.Machine
end

