-- ==== Sys2Proof/Machine/State.lean ====
section
/-! DEFINITION. The state of the VH2460 as plain data, block by block (00 section 3.1), and the state
right after reset. INVENTORY.md lists each field with the rule that names it. -/

namespace Sys2Proof.Machine

/-- A process timer. `running n` has `n` units left (10 ms, or seconds where its field says so);
`running 0` has reached zero and its expiry has not been taken yet. Chapter 12 shows a stopped timer
as 0xFFFF and an expired one as 0. -/
inductive Timer where
  | stopped
  | running (left : Nat)
  | expired
  deriving DecidableEq, Repr

/-- Where the part is in its reset sequence (R181). -/
inductive Phase where
  | held
  | starting
  | running
  deriving DecidableEq, Repr

/-- The cause of the latest reset (R181). -/
inductive RestartCause where
  | powerOn
  | resetPin
  | linkA
  | linkB
  deriving DecidableEq, Repr

/-- One qualified input: its pin, its qualified level, its candidate flag and its debounce timer in
10 ms (1.1). -/
structure QInput where
  pin       : Bool
  level     : Bool
  candidate : Bool
  timer     : Timer
  deriving DecidableEq, Repr

/-- All qualified inputs (00 section 4.5). Each pump key has two contacts (9.2). -/
structure Inputs where
  dry             : QInput
  stop            : QInput
  high            : QInput
  highHigh        : QInput
  roadFlood       : QInput
  runProven       : Vector QInput 4
  tripped         : Vector QInput 4
  sealWarning     : Vector QInput 4
  mainsHealthy    : QInput
  generatorOnLoad : QInput
  driverFault     : Vector QInput 6
  upLimit1        : QInput
  upLimit2        : QInput
  upLimit3        : QInput
  downLimit1      : QInput
  downLimit2      : QInput
  downLimit3      : QInput
  obstruction1    : QInput
  obstruction2    : QInput
  torque          : QInput
  keyHand         : Vector QInput 4
  keyOff          : Vector QInput 4
  penstockKey     : QInput
  roadKey         : QInput
  closeButton     : QInput
  reopenButton    : QInput
  faultReset      : QInput
  lampTest        : QInput
  deriving DecidableEq, Repr

/-- Health of a measured channel (1.2.5). -/
inductive ChannelState where
  | uncalibrated
  | waiting
  | healthy
  | failed
  deriving DecidableEq, Repr

inductive CapturePhase where
  | awaitingRise
  | awaitingFall
  deriving DecidableEq, Repr

inductive SuspectDirection where
  | none
  | up
  | down
  deriving DecidableEq, Repr

inductive FailCause where
  | none
  | invalidSamples
  | sampleTimeout
  deriving DecidableEq, Repr

/-- A Channel Record (1.2.1). The Sample Timer counts 10 ms. -/
structure Channel where
  state         : ChannelState
  phase         : CapturePhase
  beginTime     : Word
  lastWidth     : Word
  scaled        : Nat
  filter        : Nat
  reported      : Nat
  suspectCount  : Nat
  suspectDir    : SuspectDirection
  invalidCount  : Nat
  recoveryCount : Nat
  reloadPending : Bool
  sampleTimer   : Timer
  failCause     : FailCause
  deriving DecidableEq, Repr

/-- The five Channel Records in their fixed order. -/
structure Channels where
  sumpA       : Channel
  sumpB       : Channel
  carriageway : Channel
  river       : Channel
  luminance   : Channel
  deriving DecidableEq, Repr

inductive SumpSource where
  | a
  | b
  | both
  | floats
  deriving DecidableEq, Repr

/-- The Sump Summary (1.3). The Window Timer counts seconds; `windowLen` is the Rate Window that the
running window was started with (R20). -/
structure Sump where
  level         : Nat
  valid         : Bool
  source        : SumpSource
  rate          : Int
  windowStart   : Nat
  windowTimer   : Timer
  windowLen     : Nat
  disagreement  : Bool
  deriving DecidableEq, Repr

inductive PumpState where
  | idle
  | queued
  | starting
  | running
  | stopping
  | resting
  | faulted
  deriving DecidableEq, Repr

inductive PumpFaultCause where
  | none
  | startFail
  | tripped
  | runLost
  | failToStop
  deriving DecidableEq, Repr

inductive StopCause where
  | none
  | callEnded
  | dry
  | handOff
  | shed
  | aborted
  | supplyLost
  | uncommanded
  | removed
  deriving DecidableEq, Repr

/-- A Pump Record (2.1) and the pump's Start History (R48), oldest first. The Timer counts 10 ms. -/
structure Pump where
  state      : PumpState
  faultCause : PumpFaultCause
  stopCause  : StopCause
  timer      : Timer
  requeue    : Bool
  history    : List Clock
  deriving DecidableEq, Repr

inductive Basis where
  | none
  | level
  | float
  deriving DecidableEq, Repr

/-- A Stage Call record (2.3). -/
structure StageCall where
  called   : Bool
  basis    : Basis
  assigned : Option PumpId
  deriving DecidableEq, Repr

/-- Who calls a pump (2.1, R25). -/
inductive Call where
  | none
  | auto
  | link
  | hand
  deriving DecidableEq, Repr

/-- An entry of the Start Queue (3.3). -/
structure QueueEntry where
  pump     : PumpId
  source   : Call
  queuedAt : Clock
  deriving DecidableEq, Repr

inductive Supply where
  | mains
  | generator
  | dead
  deriving DecidableEq, Repr

/-- The Load Monitor and Start Arbiter (chapter 3). Timers count 10 ms. `episode` is the head pump of
the open blocking episode (R68); `evalDue` says that a cause of R54 has arrived. -/
structure Load where
  supply     : Supply
  settle     : Timer
  budget     : Nat
  pumpPart   : Nat
  lampPart   : Nat
  committed  : Nat
  headStart  : Nat
  reserve    : Nat
  allowance  : Nat
  queue      : List QueueEntry
  grantOrder : List PumpId
  stagger    : Timer
  hold       : Timer
  episode    : Option PumpId
  heldAppended : Bool
  evalDue    : Bool
  deriving DecidableEq, Repr

inductive RequestSource where
  | stage
  | linkFixed
  | builtin
  deriving DecidableEq, Repr

inductive LampFault where
  | none
  | transient
  | latched
  deriving DecidableEq, Repr

/-- A Lamp Group record (4.1). -/
structure LampGroup where
  requested   : Nat
  source      : RequestSource
  granted     : Nat
  grantedLoad : Nat
  applied     : Nat
  offset      : Nat
  fault       : LampFault
  darkHold    : Bool
  deriving DecidableEq, Repr

/-- The Lighting record (4.1) and the Lamp Groups. The Dwell Timer counts 10 ms. -/
structure Lighting where
  counter     : Nat
  periodInUse : Nat
  stage       : Nat
  dwell       : Timer
  stageLum    : Nat
  groups      : Vector LampGroup 6
  deriving DecidableEq, Repr

inductive Aspect where
  | dark
  | steady
  | flashA
  | flashB
  deriving DecidableEq, Repr

inductive Proof where
  | dark
  | unproven
  | proven
  | failed
  deriving DecidableEq, Repr

inductive LastSense where
  | none
  | present
  | absent
  deriving DecidableEq, Repr

/-- A Signal Channel record (5.1). The Displayed Aspect is computed (R87). -/
structure SignalChannel where
  commanded : Aspect
  proof     : Proof
  miss      : Nat
  checked   : Bool
  lastSense : LastSense
  failFlag  : Bool
  deriving DecidableEq, Repr

/-- The Signal Driver's station state and channels (5.1). -/
structure Signals where
  position    : Nat
  periodInUse : Nat
  lampTest    : Bool
  redProven1  : Bool
  redProven2  : Bool
  channels    : Vector SignalChannel 8
  deriving DecidableEq, Repr

inductive DriveState where
  | stopped
  | dwell
  | drivingUp
  | drivingDown
  | faulted
  deriving DecidableEq, Repr

/-- Directions: Pending Direction takes NONE, UP, DOWN; Last Direction takes BOTH as well (6.1). -/
inductive Direction where
  | none
  | up
  | down
  | both
  deriving DecidableEq, Repr

inductive DriveFault where
  | none
  | travelTimeout
  | limitConflict
  | stall
  | torqueTrip
  deriving DecidableEq, Repr

inductive Arrival where
  | none
  | up
  | down
  | seat
  | count
  deriving DecidableEq, Repr

/-- The common part of a Drive record (6.1). Timers count 10 ms. `permit` is the Down Permit of a
barrier drive. -/
structure Drive where
  state   : DriveState
  pending : Direction
  lastDir : Direction
  dwell   : Timer
  travel  : Timer
  fault   : DriveFault
  arrival : Arrival
  permit  : Bool
  deriving DecidableEq, Repr

/-- What the penstock drive adds (6.1). -/
structure Stem where
  count      : Nat
  referenced : Bool
  seatFlag   : Bool
  stopCount  : Option Nat
  stall      : Timer
  encA       : Bool
  encB       : Bool
  /-- The Seat Band of the last torque judgement: a commit's new one applies from the next (R115). -/
  seatBand   : Nat
  deriving DecidableEq, Repr

/-- The three Gate Drive Units. -/
structure Gates where
  barrier1 : Drive
  barrier2 : Drive
  penstock : Drive
  stem     : Stem
  deriving DecidableEq, Repr

inductive TargetKind where
  | closed
  | open
  | position
  | stopped
  deriving DecidableEq, Repr

/-- The Penstock Control record (7.1). `decideOpen` is the AUTO Decision, OPEN when true. -/
structure PenstockControl where
  decideOpen : Bool
  backflow   : Bool
  openCond   : Bool
  openDelay  : Timer
  head       : Int
  target     : TargetKind
  targetPos  : Nat
  deriving DecidableEq, Repr

inductive ClosureState where
  | open
  | alert
  | stop
  | lowering
  | closed
  | raising
  | halted
  deriving DecidableEq, Repr

inductive HaltCause where
  | none
  | obstructionLimit
  | travelFault
  | resetMidTravel
  deriving DecidableEq, Repr

inductive BarrierPhase where
  | none
  | descending
  | retreating
  | clearWait
  | downDone
  | ascending
  | upDone
  deriving DecidableEq, Repr

/-- The Closure record (8.1). Timers count 10 ms. `advised` is the advised condition of R131 as it was
last judged. -/
structure Closure where
  state      : ClosureState
  halt       : HaltCause
  depth      : Bool
  sumpBackup : Bool
  roadFlood  : Bool
  confirm    : Timer
  alert      : Timer
  clearance  : Timer
  held       : Bool
  obstructions : Nat
  phase1     : BarrierPhase
  phase2     : BarrierPhase
  clearWait1 : Timer
  clearWait2 : Timer
  advised    : Bool
  deriving DecidableEq, Repr

inductive Authority where
  | auto
  | link (k : Link)
  | hand
  deriving DecidableEq, Repr

inductive PenstockAction where
  | hold
  | open
  | closed
  | position
  deriving DecidableEq, Repr

inductive RoadAction where
  | none
  | close
  | reopen
  | resume
  deriving DecidableEq, Repr

/-- The Demand Records (9.4). A pump word is RUN when true; the lighting mode is FIXED when `fixed`. -/
structure Demands where
  pumpRun  : Vector Bool 4
  action   : PenstockAction
  position : Nat
  road     : RoadAction
  fixed    : Bool
  duties   : Vector Nat 6
  deriving DecidableEq, Repr

/-- The Authority Table (chapter 9): the seven authority words, the Demand Records and the seven Fault
Clear counts. -/
structure AuthorityTable where
  pumps       : Vector Authority 4
  penstock    : Authority
  road        : Authority
  lighting    : Authority
  demands     : Demands
  pumpClears  : Vector Word 4
  penstockClears : Word
  roadClears  : Word
  lightingClears : Word
  deriving DecidableEq, Repr

inductive LinkState where
  | starting
  | restarted
  | active
  | silent
  deriving DecidableEq, Repr

/-- The refusal reasons (12.7). -/
inductive Reason where
  | none
  | busy
  | linkRestarted
  | notAuthority
  | heldByOther
  | panelHasControl
  | builtinProfile
  | outOfRange
  | protective
  | notReferenced
  | depthUnknown
  | depthHigh
  | state
  | editHeld
  | noEdit
  | commitInProgress
  | readOnly
  | unmapped
  | sequenceMismatch
  deriving DecidableEq, Repr

/-- What the bytes after the command byte of an open frame are for (R164 to R167). A value in `half` is the
first byte of a word whose second has not been shifted. -/
inductive Shift where
  /-- They are ignored, and 0 is shifted out. -/
  | ignore
  /-- STATUS: the Link Status byte, newly formed, is shifted out. -/
  | status
  /-- HARD_RESET, no byte yet: the release of select makes a hard reset. -/
  | reset
  /-- SET_POINTER, naming the read pointer or not. -/
  | pointer (read : Bool) (half : Option Byte)
  /-- SET_MODE. -/
  | mode
  /-- READ_INC (`inc`) or READ_FIXED: the second byte of the word being shifted, if its first is out. -/
  | read (inc : Bool) (half : Option Byte)
  /-- READ_RECORD: what is left of the snapshot. -/
  | record (rest : List Byte)
  /-- WRITE_INC (`inc`) or WRITE_FIXED. -/
  | write (inc : Bool) (half : Option Byte)
  deriving DecidableEq, Repr

/-- The select line of a link and the frame it has opened (R162). -/
inductive Select where
  /-- Select is released. -/
  | released
  /-- Select is asserted and the command byte has not completed. -/
  | waiting
  /-- The command byte has completed. -/
  | framing (command : Byte) (use : Shift)
  /-- Select has been asserted since before the reset release: no frame. -/
  | ignored
  deriving DecidableEq, Repr

/-- A Link Port (10.1). The Silence Timer counts 10 ms. `unread` is the Event Cursor, held as the
number of entries from it to the tail, absent while the link is not ACTIVE; `acked` is the Sequence
most recently accepted (R172); `dataOut` is what the latest frame has shifted out (log 16). -/
structure LinkPort where
  state      : LinkState
  split      : Bool
  readPtr    : Addr
  writePtr   : Addr
  fifo       : List (Addr × Word)
  silence    : Timer
  refAddr    : Addr
  refReason  : Reason
  refValue   : Word
  refusal    : Bool
  overrun    : Bool
  missed     : Bool
  unread     : Option Nat
  acked      : Word
  dataOut    : List Byte
  select     : Select
  deriving DecidableEq, Repr

/-- The event kinds (12.7). -/
inductive EventKind where
  | restart
  | linkSilent
  | linkActive
  | authorityChange
  | channelFailed
  | channelRestored
  | sumpDisagree
  | floatMode
  | pumpFault
  | pumpStartAborted
  | supplyChange
  | startHeld
  | lampFault
  | stageChange
  | signalFailed
  | closureState
  | closureAdvised
  | barrierObstructed
  | driveFault
  | driveArrived
  | referenceLost
  | referenceSuspect
  | overridden
  | profileCommitted
  | profileRefused
  | profileNvFail
  | profileInvalid
  deriving DecidableEq, Repr

/-- An entry of the Event Queue (10.4). -/
structure Event where
  seq     : Word
  kind    : EventKind
  subject : Nat
  detail  : Word
  time    : Clock
  deriving DecidableEq, Repr

/-- The Event Queue, oldest entry first (10.4). -/
structure EventQueue where
  entries : List Event
  nextSeq : Word
  deriving DecidableEq, Repr

inductive CommitState where
  | idle
  | writing
  deriving DecidableEq, Repr

inductive EditOutcome where
  | none
  | refused
  | committed
  | nvFail
  | abandoned
  deriving DecidableEq, Repr

/-- The Profile Store (11.2). `site` is the Profile Source, SITE when true. `nvCrc` is the stored CRC
of the NV copy, absent once a write has invalidated it (R179). `committer` is the link whose COMMIT the
NV write serves. -/
structure ProfileStore where
  active      : Vector Word 256
  site        : Bool
  crc         : Word
  nvWords     : Vector Word 256
  nvCrc       : Option Word
  staging     : Vector Word 256
  owner       : Option Link
  commit      : CommitState
  outcome     : EditOutcome
  failAddr    : Addr
  committer   : Link
  deriving DecidableEq, Repr

/-- The whole state of the part, and the queue of commands that wait to be taken. -/
structure State where
  phase        : Phase
  restartCause : RestartCause
  stationClock : Clock
  subSecond    : Nat
  timebase     : Word
  inputs       : Inputs
  channels     : Channels
  sump         : Sump
  pumps        : Vector Pump 4
  stages       : Vector StageCall 4
  rotation     : List PumpId
  load         : Load
  lighting     : Lighting
  signals      : Signals
  gates        : Gates
  penstock     : PenstockControl
  closure      : Closure
  authority    : AuthorityTable
  linkA        : LinkPort
  linkB        : LinkPort
  events       : EventQueue
  profile      : ProfileStore
  choices      : Nat
  pending      : List Instr
  deriving DecidableEq, Repr

/-- The faults that stop the machine. There are none: no rule of the spec stops the part, and what it
calls a fault is state of a block. -/
inductive Fault : Type where
  deriving DecidableEq, Repr

/-- The refusals of the model. -/
inductive Refusal where
  /-- Raised by an arm of `exec` whose command has no meaning yet. Safe. No arm raises it now. -/
  | notModelled (mnemonic : String)
  deriving DecidableEq, Repr

/-- An input whose pin was inactive at the release of reset (R1). Log 1. -/
def QInput.inactive : QInput := { pin := false, level := false, candidate := false, timer := .stopped }

/-- All qualified inputs inactive. DESIGN CHOICE, log 1. -/
def Inputs.inactive : Inputs where
  dry := .inactive
  stop := .inactive
  high := .inactive
  highHigh := .inactive
  roadFlood := .inactive
  runProven := #v[.inactive, .inactive, .inactive, .inactive]
  tripped := #v[.inactive, .inactive, .inactive, .inactive]
  sealWarning := #v[.inactive, .inactive, .inactive, .inactive]
  mainsHealthy := .inactive
  generatorOnLoad := .inactive
  driverFault := #v[.inactive, .inactive, .inactive, .inactive, .inactive, .inactive]
  upLimit1 := .inactive
  upLimit2 := .inactive
  upLimit3 := .inactive
  downLimit1 := .inactive
  downLimit2 := .inactive
  downLimit3 := .inactive
  obstruction1 := .inactive
  obstruction2 := .inactive
  torque := .inactive
  keyHand := #v[.inactive, .inactive, .inactive, .inactive]
  keyOff := #v[.inactive, .inactive, .inactive, .inactive]
  penstockKey := .inactive
  roadKey := .inactive
  closeButton := .inactive
  reopenButton := .inactive
  faultReset := .inactive
  lampTest := .inactive

/-- A Channel Record at reset release under BUILTIN (R17). -/
def Channel.atReset : Channel where
  state := .uncalibrated
  phase := .awaitingRise
  beginTime := 0
  lastWidth := 0
  scaled := 0
  filter := 0
  reported := 0
  suspectCount := 0
  suspectDir := .none
  invalidCount := 0
  recoveryCount := 0
  reloadPending := false
  sampleTimer := .stopped
  failCause := .none

/-- A Pump Record at reset release with RUN_PROVEN inactive (R49). -/
def Pump.atReset : Pump where
  state := .idle
  faultCause := .none
  stopCause := .none
  timer := .stopped
  requeue := false
  history := []

/-- A Stage Call record at reset release (R49). -/
def StageCall.none : StageCall := { called := false, basis := .none, assigned := Option.none }

/-- A lamp group at reset release under BUILTIN, after the first load evaluation (R69, R86). -/
def LampGroup.atReset : LampGroup where
  requested := 1000
  source := .builtin
  granted := 1000
  grantedLoad := 0
  applied := 1000
  offset := 0
  fault := .none
  darkHold := false

/-- A signal channel at reset release that the initial Closure State lights steadily (R97). -/
def SignalChannel.lit : SignalChannel where
  commanded := .steady
  proof := .unproven
  miss := 0
  checked := false
  lastSense := .none
  failFlag := false

/-- A signal channel at reset release that the initial Closure State leaves dark (R97). -/
def SignalChannel.unlit : SignalChannel where
  commanded := .dark
  proof := .dark
  miss := 0
  checked := false
  lastSense := .none
  failFlag := false

/-- A barrier drive at reset release with its limits inactive (R116). -/
def Drive.atReset : Drive where
  state := .stopped
  pending := .none
  lastDir := .both
  dwell := .running 200
  travel := .stopped
  fault := .none
  arrival := .none
  permit := false

/-- A Link Port when start-up is complete (R175, R181). -/
def LinkPort.atReset : LinkPort where
  state := .restarted
  split := false
  readPtr := 0
  writePtr := 0
  fifo := []
  silence := .stopped
  refAddr := 0
  refReason := .none
  refValue := 0
  refusal := false
  overrun := false
  missed := false
  unread := none
  acked := 0
  dataOut := []
  select := .released

/-- The machine right after reset: the end of start-up (R181, "reset release") after a power-on, with a
bad NV copy and every pin inactive (log 1). Each field has the value its chapter gives for reset
release. -/
def State.reset : State where
  phase := .running
  restartCause := .powerOn
  stationClock := 0
  subSecond := 0
  timebase := 0
  inputs := .inactive
  channels := { sumpA := .atReset, sumpB := .atReset, carriageway := .atReset, river := .atReset,
                luminance := .atReset }
  sump := { level := 0, valid := false, source := .floats, rate := 0, windowStart := 0,
            windowTimer := .stopped, windowLen := 0, disagreement := false }
  pumps := #v[.atReset, .atReset, .atReset, .atReset]
  stages := #v[.none, .none, .none, .none]
  rotation := [0, 1, 2, 3]
  load := { supply := .dead, settle := .stopped, budget := 0, pumpPart := 0, lampPart := 0,
            committed := 0, headStart := 0, reserve := 0, allowance := 0, queue := [],
            grantOrder := [], stagger := .expired, hold := .stopped, episode := none,
            heldAppended := false, evalDue := false }
  lighting := { counter := 0, periodInUse := 2000, stage := 1, dwell := .running 6000, stageLum := 0,
                groups := #v[.atReset, .atReset, .atReset, .atReset, .atReset, .atReset] }
  signals := { position := 0, periodInUse := 1000, lampTest := false, redProven1 := false,
               redProven2 := false,
               channels := #v[.lit, .lit, .unlit, .lit, .lit, .unlit, .lit, .lit] }
  gates := { barrier1 := .atReset, barrier2 := .atReset,
             penstock := { Drive.atReset with state := .dwell, pending := .down },
             stem := { count := 0, referenced := false, seatFlag := false, stopCount := none,
                       stall := .stopped, encA := false, encB := false, seatBand := 200 } }
  penstock := { decideOpen := false, backflow := false, openCond := false, openDelay := .stopped,
                head := 0, target := .closed, targetPos := 0 }
  closure := { state := .halted, halt := .resetMidTravel, depth := false, sumpBackup := false,
               roadFlood := false, confirm := .stopped, alert := .stopped, clearance := .stopped,
               held := false, obstructions := 0, phase1 := .none, phase2 := .none,
               clearWait1 := .stopped, clearWait2 := .stopped, advised := false }
  authority := { pumps := #v[.auto, .auto, .auto, .auto], penstock := .auto, road := .auto,
                 lighting := .auto,
                 demands := { pumpRun := #v[false, false, false, false], action := .hold,
                              position := 0, road := .none, fixed := false,
                              duties := #v[1000, 1000, 1000, 1000, 1000, 1000] },
                 pumpClears := #v[0, 0, 0, 0], penstockClears := 0, roadClears := 0,
                 lightingClears := 0 }
  linkA := .atReset
  linkB := .atReset
  events := { entries := [{ seq := 1, kind := .restart, subject := 0, detail := 0, time := 0 },
                          { seq := 2, kind := .profileInvalid, subject := 0, detail := 0, time := 0 }],
              nextSeq := 3 }
  profile := { active := builtinWords, site := false, crc := 0,
               nvWords := Vector.replicate 256 0, nvCrc := none, staging := builtinWords,
               owner := none, commit := .idle, outcome := .none, failAddr := 0, committer := .a }
  choices := 0
  pending := []

end Sys2Proof.Machine
end

