-- ==== Sys2Proof/Machine/Operands.lean ====
section
/-! DEFINITION. How operands and enumerated values are read and shown: lists of the indices, the codes
of 12.7, indices of channels, drives and links, and the words of a frame's bytes. -/

namespace Sys2Proof.Machine

/-- The pumps in number order. -/
def allPumps : List PumpId := [0, 1, 2, 3]

/-- The stages, lowest first. -/
def allStages : List StageId := [0, 1, 2, 3]

/-- The stages, highest first. -/
def stagesDown : List StageId := [3, 2, 1, 0]

/-- The lamp groups in number order. -/
def allGroups : List GroupId := [0, 1, 2, 3, 4, 5]

/-- The signal channels in number order. -/
def allSignals : List SignalId := [0, 1, 2, 3, 4, 5, 6, 7]

/-- The units in index order (9.1). -/
def allUnits : List UnitId :=
  [.pump 0, .pump 1, .pump 2, .pump 3, .penstock, .road, .lighting]

/-- Link index: Link A = 1, Link B = 2 (chapter 10). -/
def linkIndex : Link → Nat
  | .a => 1
  | .b => 2

/-- The other link. -/
def otherLink : Link → Link
  | .a => .b
  | .b => .a

/-- Drive index: BARRIER_1 = 1, BARRIER_2 = 2, PENSTOCK = 3 (6.1). -/
def driveIndex : DriveId → Nat
  | .barrier .one => 1
  | .barrier .two => 2
  | .penstock => 3

/-- Channel index, 1..5 (1.2.1). -/
def channelNumber : ChannelId → Nat
  | .sumpA => 1
  | .sumpB => 2
  | .carriageway => 3
  | .river => 4
  | .luminance => 5

/-- A flag as a number. -/
def bit (b : Bool) (place : Nat) : Nat := if b then 2 ^ place else 0

/-! Enumeration codes (12.7), from 0 in the order listed there. -/

def ChannelState.code : ChannelState → Nat
  | .uncalibrated => 0
  | .waiting => 1
  | .healthy => 2
  | .failed => 3

def FailCause.code : FailCause → Nat
  | .none => 0
  | .invalidSamples => 1
  | .sampleTimeout => 2

def SuspectDirection.code : SuspectDirection → Nat
  | .none => 0
  | .up => 1
  | .down => 2

def CapturePhase.code : CapturePhase → Nat
  | .awaitingRise => 0
  | .awaitingFall => 1

def SumpSource.code : SumpSource → Nat
  | .a => 0
  | .b => 1
  | .both => 2
  | .floats => 3

def PumpState.code : PumpState → Nat
  | .idle => 0
  | .queued => 1
  | .starting => 2
  | .running => 3
  | .stopping => 4
  | .resting => 5
  | .faulted => 6

def Authority.code : Authority → Nat
  | .auto => 0
  | .link .a => 1
  | .link .b => 2
  | .hand => 3

def Call.code : Call → Nat
  | .none => 0
  | .auto => 1
  | .link => 2
  | .hand => 3

def PumpFaultCause.code : PumpFaultCause → Nat
  | .none => 0
  | .startFail => 1
  | .tripped => 2
  | .runLost => 3
  | .failToStop => 4

def StopCause.code : StopCause → Nat
  | .none => 0
  | .callEnded => 1
  | .dry => 2
  | .handOff => 3
  | .shed => 4
  | .aborted => 5
  | .supplyLost => 6
  | .uncommanded => 7
  | .removed => 8

def Supply.code : Supply → Nat
  | .mains => 0
  | .generator => 1
  | .dead => 2

/-- The Basis code of the Queue record: 0 not called, 1 LEVEL, 2 FLOAT (12.2). -/
def Basis.code : Basis → Nat
  | .none => 0
  | .level => 1
  | .float => 2

def RequestSource.code : RequestSource → Nat
  | .stage => 0
  | .linkFixed => 1
  | .builtin => 2

def LampFault.code : LampFault → Nat
  | .none => 0
  | .transient => 1
  | .latched => 2

def Aspect.code : Aspect → Nat
  | .dark => 0
  | .steady => 1
  | .flashA => 2
  | .flashB => 3

def Proof.code : Proof → Nat
  | .dark => 0
  | .unproven => 1
  | .proven => 2
  | .failed => 3

def LastSense.code : LastSense → Nat
  | .none => 0
  | .present => 1
  | .absent => 2

def DriveState.code : DriveState → Nat
  | .stopped => 0
  | .dwell => 1
  | .drivingUp => 2
  | .drivingDown => 3
  | .faulted => 4

def Direction.code : Direction → Nat
  | .none => 0
  | .up => 1
  | .down => 2
  | .both => 3

def DriveFault.code : DriveFault → Nat
  | .none => 0
  | .travelTimeout => 1
  | .limitConflict => 2
  | .stall => 3
  | .torqueTrip => 4

def Arrival.code : Arrival → Nat
  | .none => 0
  | .up => 1
  | .down => 2
  | .seat => 3
  | .count => 4

def TargetKind.code : TargetKind → Nat
  | .closed => 0
  | .open => 1
  | .position => 2
  | .stopped => 3

def ClosureState.code : ClosureState → Nat
  | .open => 0
  | .alert => 1
  | .stop => 2
  | .lowering => 3
  | .closed => 4
  | .raising => 5
  | .halted => 6

def HaltCause.code : HaltCause → Nat
  | .none => 0
  | .obstructionLimit => 1
  | .travelFault => 2
  | .resetMidTravel => 3

def BarrierPhase.code : BarrierPhase → Nat
  | .none => 0
  | .descending => 1
  | .retreating => 2
  | .clearWait => 3
  | .downDone => 4
  | .ascending => 5
  | .upDone => 6

def PenstockAction.code : PenstockAction → Nat
  | .hold => 0
  | .open => 1
  | .closed => 2
  | .position => 3

def RoadAction.code : RoadAction → Nat
  | .none => 0
  | .close => 1
  | .reopen => 2
  | .resume => 3

def LinkState.code : LinkState → Nat
  | .starting => 0
  | .restarted => 1
  | .active => 2
  | .silent => 3

def CommitState.code : CommitState → Nat
  | .idle => 0
  | .writing => 1

def EditOutcome.code : EditOutcome → Nat
  | .none => 0
  | .refused => 1
  | .committed => 2
  | .nvFail => 3
  | .abandoned => 4

def RestartCause.code : RestartCause → Nat
  | .powerOn => 0
  | .resetPin => 1
  | .linkA => 2
  | .linkB => 3

/-- Edit Owner: NONE, LINK_A, LINK_B. -/
def ownerCode : Option Link → Nat
  | none => 0
  | some k => linkIndex k

def Reason.code : Reason → Nat
  | .none => 0
  | .busy => 1
  | .linkRestarted => 2
  | .notAuthority => 3
  | .heldByOther => 4
  | .panelHasControl => 5
  | .builtinProfile => 6
  | .outOfRange => 7
  | .protective => 8
  | .notReferenced => 9
  | .depthUnknown => 10
  | .depthHigh => 11
  | .state => 12
  | .editHeld => 13
  | .noEdit => 14
  | .commitInProgress => 15
  | .readOnly => 16
  | .unmapped => 17
  | .sequenceMismatch => 18

/-- Event kinds have the codes 1..27. -/
def EventKind.code : EventKind → Nat
  | .restart => 1
  | .linkSilent => 2
  | .linkActive => 3
  | .authorityChange => 4
  | .channelFailed => 5
  | .channelRestored => 6
  | .sumpDisagree => 7
  | .floatMode => 8
  | .pumpFault => 9
  | .pumpStartAborted => 10
  | .supplyChange => 11
  | .startHeld => 12
  | .lampFault => 13
  | .stageChange => 14
  | .signalFailed => 15
  | .closureState => 16
  | .closureAdvised => 17
  | .barrierObstructed => 18
  | .driveFault => 19
  | .driveArrived => 20
  | .referenceLost => 21
  | .referenceSuspect => 22
  | .overridden => 23
  | .profileCommitted => 24
  | .profileRefused => 25
  | .profileNvFail => 26
  | .profileInvalid => 27

/-- The word of two bytes, most significant first (00 section 4.4). -/
def wordOfBytes (hi lo : Byte) : Word := hi ++ lo

/-- The two bytes of a word, most significant first. -/
def bytesOfWord (w : Word) : List Byte := [w.extractLsb' 8 8, w.extractLsb' 0 8]

/-- Position and duty words above 1000 are taken as 1000 (R153, 12.3). -/
def clamp1000 (w : Word) : Nat := min w.toNat 1000

end Sys2Proof.Machine
end

