-- ==== Sys2Proof/Machine/Params.lean ====
section
/-! DEFINITION. The parameters of a profile by name, at the offsets of 12.4, and their conversion to
timer units. A profile is its 256 words. -/

namespace Sys2Proof.Machine

/-- The profile words in force (4.2): every parameter a rule names is read from them. -/
def State.prof (s : State) : Vector Word 256 := s.profile.active

namespace Param

/-- The word at an offset (12.4). -/
def word (v : Vector Word 256) (off : Nat) : Nat := (v[off]?.getD 0).toNat

/-- Seconds as 10 ms steps. -/
def tens (seconds : Nat) : Nat := seconds * 100

/-- Milliseconds as 10 ms steps, rounded up (R2, R15). -/
def tensOfMs (ms : Nat) : Nat := (ms + 9) / 10

/-- Float Debounce, held in 10 ms units (12.4). -/
def floatDebounce (v : Vector Word 256) : Nat := word v 0x00

/-- Contact Debounce (ms) as 10 ms steps, rounded up (R2). -/
def contactDebounce (v : Vector Word 256) : Nat := tensOfMs (word v 0x01)

def agreementBand (v : Vector Word 256) : Nat := word v 0x02
def rateWindow (v : Vector Word 256) : Nat := word v 0x03
def rateCall (v : Vector Word 256) : Nat := word v 0x04
def rateAdvance (v : Vector Word 256) : Nat := word v 0x05
def maxRunning (v : Vector Word 256) : Nat := word v 0x06
def startStagger (v : Vector Word 256) : Nat := tens (word v 0x07)
def inrush (v : Vector Word 256) : Nat := word v 0x08
def mainsCapacity (v : Vector Word 256) : Nat := word v 0x09
def generatorCapacity (v : Vector Word 256) : Nat := word v 0x0A
def gateReserve (v : Vector Word 256) : Nat := word v 0x0B
def settleTime (v : Vector Word 256) : Nat := tens (word v 0x0C)
def silenceTime (v : Vector Word 256) : Nat := tens (word v 0x0D)
def flashPeriod (v : Vector Word 256) : Nat := word v 0x0E
def lightingPeriod (v : Vector Word 256) : Nat := word v 0x0F

/-- The place of a channel in the fixed order, 0..4. -/
def channelIndex : ChannelId → Nat
  | .sumpA => 0
  | .sumpB => 1
  | .carriageway => 2
  | .river => 3
  | .luminance => 4

/-- The `i`-th word of a channel's nine (12.4). -/
def channelWord (v : Vector Word 256) (c : ChannelId) (i : Nat) : Nat :=
  word v (0x10 + 9 * channelIndex c + i)

def zeroWidth (v : Vector Word 256) (c : ChannelId) : Nat := channelWord v c 0
def spanWidth (v : Vector Word 256) (c : ChannelId) : Nat := channelWord v c 1
def range (v : Vector Word 256) (c : ChannelId) : Nat := channelWord v c 2
def mount (v : Vector Word 256) (c : ChannelId) : Nat := channelWord v c 3
def faultLow (v : Vector Word 256) (c : ChannelId) : Nat := channelWord v c 4
def faultHigh (v : Vector Word 256) (c : ChannelId) : Nat := channelWord v c 5
def filterShift (v : Vector Word 256) (c : ChannelId) : Nat := channelWord v c 6
def stepLimit (v : Vector Word 256) (c : ChannelId) : Nat := channelWord v c 7

/-- Sample Timeout (ms) as 10 ms steps, rounded up (R15). -/
def sampleTimeout (v : Vector Word 256) (c : ChannelId) : Nat := tensOfMs (channelWord v c 8)

/-- The offset of a stage set: GRAVITY, or TIDE_LOCKED (12.4). -/
def setBase (gravity : Bool) : Nat := if gravity then 0x40 else 0x48

/-- Start Level S_k of a set; `k` counts from 0. -/
def startLevel (v : Vector Word 256) (gravity : Bool) (k : StageId) : Nat :=
  word v (setBase gravity + k.val)

/-- Stop Level T_k of a set; `k` counts from 0. -/
def stopLevel (v : Vector Word 256) (gravity : Bool) (k : StageId) : Nat :=
  word v (setBase gravity + 4 + k.val)

/-- The `i`-th word of a pump's seven (12.4). -/
def pumpWord (v : Vector Word 256) (p : PumpId) (i : Nat) : Nat := word v (0x50 + 8 * p.val + i)

def installed (v : Vector Word 256) (p : PumpId) : Bool := pumpWord v p 0 != 0
def ratedLoad (v : Vector Word 256) (p : PumpId) : Nat := pumpWord v p 1
def startProof (v : Vector Word 256) (p : PumpId) : Nat := tens (pumpWord v p 2)
def stopProof (v : Vector Word 256) (p : PumpId) : Nat := tens (pumpWord v p 3)
def minRun (v : Vector Word 256) (p : PumpId) : Nat := tens (pumpWord v p 4)
def minRest (v : Vector Word 256) (p : PumpId) : Nat := tens (pumpWord v p 5)
def maxStarts (v : Vector Word 256) (p : PumpId) : Nat := pumpWord v p 6

def installedStages (v : Vector Word 256) : Nat := word v 0x70
def stageHysteresis (v : Vector Word 256) : Nat := word v 0x71
def stageDwell (v : Vector Word 256) : Nat := tens (word v 0x72)

/-- The `i`-th word of a lamp group's five (12.4). -/
def groupWord (v : Vector Word 256) (g : GroupId) (i : Nat) : Nat := word v (0x78 + 5 * g.val + i)

def fullLoad (v : Vector Word 256) (g : GroupId) : Nat := groupWord v g 0
def floorDuty (v : Vector Word 256) (g : GroupId) : Nat := groupWord v g 1
def priority (v : Vector Word 256) (g : GroupId) : Nat := groupWord v g 2
def phaseOffset (v : Vector Word 256) (g : GroupId) : Nat := groupWord v g 3

/-- Fault Mode: PER_PERIOD when true, LATCHED otherwise (codes of 12.7). -/
def perPeriod (v : Vector Word 256) (g : GroupId) : Bool := groupWord v g 4 != 0

/-- Luminance Threshold of lighting stage `n`, 1..8. -/
def threshold (v : Vector Word 256) (n : Nat) : Nat := word v (0x98 + 7 * (n - 1))

/-- Stage Duty of lighting stage `n`, 1..8, for a group. -/
def stageDuty (v : Vector Word 256) (n : Nat) (g : GroupId) : Nat :=
  word v (0x99 + 7 * (n - 1) + g.val)

/-- Reversal Dwell, held in 10 ms units (12.4). -/
def reversalDwell (v : Vector Word 256) : Nat := word v 0xD0

/-- The travel time of a drive (6.1). -/
def travelTime (v : Vector Word 256) : DriveId → Nat
  | .barrier _ => tens (word v 0xD1)
  | .penstock => tens (word v 0xD2)

def travelCounts (v : Vector Word 256) : Nat := word v 0xD3
def seatBand (v : Vector Word 256) : Nat := word v 0xD4
def limitTolerance (v : Vector Word 256) : Nat := word v 0xD5
def stallTime (v : Vector Word 256) : Nat := tens (word v 0xD6)
def closeMargin (v : Vector Word 256) : Nat := word v 0xD8
def openMargin (v : Vector Word 256) : Nat := word v 0xD9
def openDelay (v : Vector Word 256) : Nat := tens (word v 0xDA)
def closureDepth (v : Vector Word 256) : Nat := word v 0xE0
def reopenDepth (v : Vector Word 256) : Nat := word v 0xE1
def confirmTime (v : Vector Word 256) : Nat := tens (word v 0xE2)
def sumpClosureLevel (v : Vector Word 256) : Nat := word v 0xE3
def alertTime (v : Vector Word 256) : Nat := tens (word v 0xE4)
def clearanceTime (v : Vector Word 256) : Nat := tens (word v 0xE5)
def obstructionClearTime (v : Vector Word 256) : Nat := tens (word v 0xE6)
def obstructionRetries (v : Vector Word 256) : Nat := word v 0xE7

end Param

end Sys2Proof.Machine
end

