-- ==== Sys2Proof/Machine/Ops.lean ====
section
/-! DEFINITION. The named operations every block uses: reading and updating one part of State, process
timers, appending an event (R170), removing passed entries (R173), recording a refusal (R169). -/

namespace Sys2Proof.Machine

/-! ## Timers -/

/-- The timer runs: its expiry has not been taken. -/
def Timer.isRunning : Timer → Bool
  | .running _ => true
  | _ => false

/-- Start a timer that expires as it starts when its time is 0 (R51). -/
def Timer.startOrExpire (n : Nat) : Timer := if n = 0 then .expired else .running n

/-- One step of the timer's unit passes. A timer at zero waits there for its expiry to be taken. -/
def Timer.tick : Timer → Timer
  | .running (n + 1) => .running n
  | t => t

/-- The timer has reached zero and its expiry is to be taken. -/
def Timer.isDue : Timer → Bool
  | .running 0 => true
  | _ => false

/-! ## Parts of State -/

def State.modInputs (f : Inputs → Inputs) (s : State) : State := { s with inputs := f s.inputs }

def State.modSump (f : Sump → Sump) (s : State) : State := { s with sump := f s.sump }

def State.modLoad (f : Load → Load) (s : State) : State := { s with load := f s.load }

def State.modLighting (f : Lighting → Lighting) (s : State) : State :=
  { s with lighting := f s.lighting }

def State.modSignals (f : Signals → Signals) (s : State) : State := { s with signals := f s.signals }

def State.modGates (f : Gates → Gates) (s : State) : State := { s with gates := f s.gates }

def State.modStem (f : Stem → Stem) (s : State) : State :=
  { s with gates := { s.gates with stem := f s.gates.stem } }

def State.modPenstock (f : PenstockControl → PenstockControl) (s : State) : State :=
  { s with penstock := f s.penstock }

def State.modClosure (f : Closure → Closure) (s : State) : State := { s with closure := f s.closure }

def State.modAuthority (f : AuthorityTable → AuthorityTable) (s : State) : State :=
  { s with authority := f s.authority }

def State.modDemands (f : Demands → Demands) (s : State) : State :=
  { s with authority := { s.authority with demands := f s.authority.demands } }

def State.modProfile (f : ProfileStore → ProfileStore) (s : State) : State :=
  { s with profile := f s.profile }

def State.setRotation (r : List PumpId) (s : State) : State := { s with rotation := r }

def State.pump (s : State) (p : PumpId) : Pump := s.pumps[p]

def State.modPump (p : PumpId) (f : Pump → Pump) (s : State) : State :=
  { s with pumps := s.pumps.set p (f s.pumps[p]) }

def State.stage (s : State) (k : StageId) : StageCall := s.stages[k]

def State.modStage (k : StageId) (f : StageCall → StageCall) (s : State) : State :=
  { s with stages := s.stages.set k (f s.stages[k]) }

def State.group (s : State) (g : GroupId) : LampGroup := s.lighting.groups[g]

def State.modGroup (g : GroupId) (f : LampGroup → LampGroup) (s : State) : State :=
  { s with lighting :=
      { s.lighting with groups := s.lighting.groups.set g (f s.lighting.groups[g]) } }

def State.signal (s : State) (n : SignalId) : SignalChannel := s.signals.channels[n]

def State.modSignal (n : SignalId) (f : SignalChannel → SignalChannel) (s : State) : State :=
  { s with signals :=
      { s.signals with channels := s.signals.channels.set n (f s.signals.channels[n]) } }

def State.channel (s : State) : ChannelId → Channel
  | .sumpA => s.channels.sumpA
  | .sumpB => s.channels.sumpB
  | .carriageway => s.channels.carriageway
  | .river => s.channels.river
  | .luminance => s.channels.luminance

/-- Write one Channel Record. -/
def Channels.put (c : ChannelId) (x : Channel) (t : Channels) : Channels :=
  match c with
  | .sumpA => { t with sumpA := x }
  | .sumpB => { t with sumpB := x }
  | .carriageway => { t with carriageway := x }
  | .river => { t with river := x }
  | .luminance => { t with luminance := x }

def State.setChannel (c : ChannelId) (x : Channel) (s : State) : State :=
  { s with channels := s.channels.put c x }

def State.modChannel (c : ChannelId) (f : Channel → Channel) (s : State) : State :=
  s.setChannel c (f (s.channel c))

def State.drive (s : State) : DriveId → Drive
  | .barrier .one => s.gates.barrier1
  | .barrier .two => s.gates.barrier2
  | .penstock => s.gates.penstock

/-- Write one Drive record. -/
def Gates.put (d : DriveId) (x : Drive) (t : Gates) : Gates :=
  match d with
  | .barrier .one => { t with barrier1 := x }
  | .barrier .two => { t with barrier2 := x }
  | .penstock => { t with penstock := x }

def State.modDrive (d : DriveId) (f : Drive → Drive) (s : State) : State :=
  { s with gates := s.gates.put d (f (s.drive d)) }

def State.link (s : State) : Link → LinkPort
  | .a => s.linkA
  | .b => s.linkB

def State.modLink (k : Link) (f : LinkPort → LinkPort) (s : State) : State :=
  match k with
  | .a => { s with linkA := f s.linkA }
  | .b => { s with linkB := f s.linkB }

/-- Read one qualified input. -/
def Inputs.get (t : Inputs) : InputId → QInput
  | .float .dry => t.dry
  | .float .stop => t.stop
  | .float .high => t.high
  | .float .highHigh => t.highHigh
  | .float .roadFlood => t.roadFlood
  | .runProven p => t.runProven[p]
  | .tripped p => t.tripped[p]
  | .sealWarning p => t.sealWarning[p]
  | .mainsHealthy => t.mainsHealthy
  | .generatorOnLoad => t.generatorOnLoad
  | .driverFault g => t.driverFault[g]
  | .upLimit (.barrier .one) => t.upLimit1
  | .upLimit (.barrier .two) => t.upLimit2
  | .upLimit .penstock => t.upLimit3
  | .downLimit (.barrier .one) => t.downLimit1
  | .downLimit (.barrier .two) => t.downLimit2
  | .downLimit .penstock => t.downLimit3
  | .obstruction .one => t.obstruction1
  | .obstruction .two => t.obstruction2
  | .torque => t.torque
  | .keyHand p => t.keyHand[p]
  | .keyOff p => t.keyOff[p]
  | .penstockKey => t.penstockKey
  | .roadKey => t.roadKey
  | .button .close => t.closeButton
  | .button .reopen => t.reopenButton
  | .button .faultReset => t.faultReset
  | .button .lampTest => t.lampTest

/-- Write one qualified input. -/
def Inputs.put (i : InputId) (q : QInput) (t : Inputs) : Inputs :=
  match i with
  | .float .dry => { t with dry := q }
  | .float .stop => { t with stop := q }
  | .float .high => { t with high := q }
  | .float .highHigh => { t with highHigh := q }
  | .float .roadFlood => { t with roadFlood := q }
  | .runProven p => { t with runProven := t.runProven.set p q }
  | .tripped p => { t with tripped := t.tripped.set p q }
  | .sealWarning p => { t with sealWarning := t.sealWarning.set p q }
  | .mainsHealthy => { t with mainsHealthy := q }
  | .generatorOnLoad => { t with generatorOnLoad := q }
  | .driverFault g => { t with driverFault := t.driverFault.set g q }
  | .upLimit (.barrier .one) => { t with upLimit1 := q }
  | .upLimit (.barrier .two) => { t with upLimit2 := q }
  | .upLimit .penstock => { t with upLimit3 := q }
  | .downLimit (.barrier .one) => { t with downLimit1 := q }
  | .downLimit (.barrier .two) => { t with downLimit2 := q }
  | .downLimit .penstock => { t with downLimit3 := q }
  | .obstruction .one => { t with obstruction1 := q }
  | .obstruction .two => { t with obstruction2 := q }
  | .torque => { t with torque := q }
  | .keyHand p => { t with keyHand := t.keyHand.set p q }
  | .keyOff p => { t with keyOff := t.keyOff.set p q }
  | .penstockKey => { t with penstockKey := q }
  | .roadKey => { t with roadKey := q }
  | .button .close => { t with closeButton := q }
  | .button .reopen => { t with reopenButton := q }
  | .button .faultReset => { t with faultReset := q }
  | .button .lampTest => { t with lampTest := q }

/-- Every qualified input (00 section 4.5). -/
def allInputs : List InputId :=
  [.float .dry, .float .stop, .float .high, .float .highHigh, .float .roadFlood,
    .mainsHealthy, .generatorOnLoad]
    ++ allPumps.flatMap (fun p => [.runProven p, .tripped p, .sealWarning p, .keyHand p, .keyOff p])
    ++ allGroups.map .driverFault
    ++ [.upLimit (.barrier .one), .downLimit (.barrier .one), .upLimit (.barrier .two),
      .downLimit (.barrier .two), .upLimit .penstock, .downLimit .penstock,
      .obstruction .one, .obstruction .two, .torque, .penstockKey, .roadKey,
      .button .close, .button .reopen, .button .faultReset, .button .lampTest]

/-- The qualified level of an input: what the spec means by "active" (1.1). -/
def State.level (s : State) (i : InputId) : Bool := (s.inputs.get i).level

/-! ## The Event Queue -/

/-- One link's side of an append (R170): where the oldest entry is lost and the cursor stood on it, the
cursor moves to the next entry and MISSED is set; then the new entry is unread. -/
def LinkPort.onAppend (full : Bool) (length : Nat) (l : LinkPort) : LinkPort :=
  let l := if full && l.unread == some length then { l with unread := some (length - 1), missed := true }
    else l
  { l with unread := l.unread.map (· + 1) }

/-- Append one entry at the tail (R170): the next Sequence, the present Station Clock; a queue of 32
entries first loses its oldest. -/
def State.append (kind : EventKind) (subject detail : Nat) (s : State) : State :=
  let n := s.events.entries.length
  let full := decide (32 ≤ n)
  let kept := if full then s.events.entries.drop 1 else s.events.entries
  let e : Event := { seq := s.events.nextSeq, kind, subject, detail := BitVec.ofNat 16 detail,
                     time := s.stationClock }
  { s with
    events := { entries := kept ++ [e], nextSeq := s.events.nextSeq + 1 }
    linkA := s.linkA.onAppend full n
    linkB := s.linkB.onAppend full n }

/-- How many entries the ACTIVE links still need, of `n` held: all while no link is ACTIVE (R173). -/
def entriesNeeded (n : Nat) : Option Nat → Option Nat → Nat
  | none, none => n
  | some a, none => a
  | none, some b => b
  | some a, some b => max a b

/-- Remove from the front the entries that every ACTIVE link has passed (R173). -/
def State.removePassed (s : State) : State :=
  let n := s.events.entries.length
  { s with events := { s.events with
      entries := s.events.entries.drop (n - entriesNeeded n s.linkA.unread s.linkB.unread) } }

/-- The entry under a link's Event Cursor (R171). -/
def State.underCursor (s : State) (k : Link) : Option Event :=
  match (s.link k).unread with
  | some (n + 1) => s.events.entries[s.events.entries.length - (n + 1)]?
  | _ => none

/-! ## Refusals -/

/-- Record a refusal in a link's Last Refusal record and set its REFUSAL flag (R169). -/
def State.refuse (k : Link) (addr : Addr) (reason : Reason) (value : Word) (s : State) : State :=
  s.modLink k fun l => { l with refAddr := addr, refReason := reason, refValue := value, refusal := true }

/-! ## Authority, read -/

/-- The authority of a unit (R145). -/
def State.authorityOf (s : State) : UnitId → Authority
  | .pump p => s.authority.pumps[p]
  | .penstock => s.authority.penstock
  | .road => s.authority.road
  | .lighting => s.authority.lighting

/-- Pump key position OFF: the OFF contact is active, alone or with the HAND contact (9.2, R146). -/
def State.keyOff (s : State) (p : PumpId) : Bool := s.level (.keyOff p)

/-- Pump key position HAND (9.2). -/
def State.keyHand (s : State) (p : PumpId) : Bool := s.level (.keyHand p) && !s.level (.keyOff p)

/-- The unit's panel key is at HAND, OFF or LOCAL (R145). LIGHTING has no key. -/
def State.keyLocal (s : State) : UnitId → Bool
  | .pump p => s.level (.keyHand p) || s.level (.keyOff p)
  | .penstock => s.level .penstockKey
  | .road => s.level .roadKey
  | .lighting => false

end Sys2Proof.Machine
end

