-- ==== Sys2Proof/Machine/Signals.lean ====
section
/-! DEFINITION. The Signal Driver (spec/05): displayed aspects, the Flash Cycle, proving and Red Proven. -/

namespace Sys2Proof.Machine

/-! ## Displayed aspects (R87, R90, R93) -/

/-- The Displayed Aspect of a channel (R87). -/
def State.displayed (s : State) (n : SignalId) : Aspect :=
  if s.signals.lampTest then .steady else (s.signal n).commanded

/-- A channel's record follows a change of its Displayed Aspect (R93). -/
def SignalChannel.follow (old new : Aspect) (x : SignalChannel) : SignalChannel :=
  if old = new then x
  else if new = .dark then { x with proof := .dark, miss := 0, lastSense := .none }
  else if old = .dark then { x with proof := .unproven, miss := 0, checked := true, lastSense := .none }
  else x

/-- Every channel's record follows the change of its Displayed Aspect since `before` (R93). -/
def followDisplay (before s : State) : State :=
  allSignals.foldl (fun s n => s.modSignal n (·.follow (before.displayed n) (s.displayed n))) s

/-- Lamp Test Active as R90 gives it. -/
def lampTestDue (s : State) : Bool := s.level (.button .lampTest) && s.closure.state == .open

/-- Judge Lamp Test Active again (R90). -/
def judgeLampTest (s : State) : State :=
  followDisplay s (s.modSignals fun x => { x with lampTest := lampTestDue s })

/-- The Closure Sequencer writes the eight Commanded Aspects in one event (R87). -/
def writeAspects (aspects : Vector Aspect 8) (s : State) : State :=
  followDisplay s
    (allSignals.foldl (fun s n => s.modSignal n fun x => { x with commanded := aspects[n] }) s)

/-! ## The Flash Cycle (R88, R89) -/

/-- H, half the period rounded down (R89). -/
def half (period : Nat) : Nat := period / 2

/-- The output is lit at a position under a Displayed Aspect (R89). -/
def litAt (aspect : Aspect) (period position : Nat) : Bool :=
  match aspect with
  | .dark => false
  | .steady => true
  | .flashA => decide (position < half period)
  | .flashB => decide (half period ≤ position)

/-- The counter wraps and a new Flash Cycle begins (R88). -/
def flashWrap (s : State) : State :=
  let s := s.modSignals fun x => { x with position := 0, periodInUse := Param.flashPeriod s.prof }
  allSignals.foldl (fun s n => s.modSignal n fun x => { x with checked := false }) s

/-! ## Proving (R91, R92, R94) -/

/-- The check position of a Displayed Aspect (R91). -/
def checkPositionOf (aspect : Aspect) (period : Nat) : Option Nat :=
  match aspect with
  | .dark => none
  | .steady => some (3 * period / 4)
  | .flashA => some (half period / 2)
  | .flashB => some (half period + (period - half period) / 2)

/-- The channel is checked when the counter reaches a position (R91). -/
def checkDue (s : State) (pos : Nat) (n : SignalId) : Bool :=
  checkPositionOf (s.displayed n) s.signals.periodInUse == some pos && !(s.signal n).checked

/-- A check enters FAILED (R92). -/
def SignalChannel.failsOn (present : Bool) (x : SignalChannel) : Bool :=
  !present && x.miss == 1 && (x.proof == .unproven || x.proof == .proven)

/-- What one check does to a channel's record (R92, R94). -/
def SignalChannel.check (present : Bool) (x : SignalChannel) : SignalChannel :=
  let x' : SignalChannel :=
    { x with checked := true, lastSense := if present then .present else .absent }
  if present then { x' with proof := .proven, miss := 0 }
  else if x.proof = .failed then x'
  else if x.failsOn present then { x' with proof := .failed, miss := 0, failFlag := true }
  else { x' with miss := 1 }

/-- Check one channel at a position if its check is due (R91, R92, R94). -/
def checkChannel (pos : Nat) (sense : BitVec 8) (s : State) (n : SignalId) : State :=
  if checkDue s pos n then
    let present := sense.getLsbD n.val
    let s' := s.modSignal n (·.check present)
    if (s.signal n).failsOn present then s'.append .signalFailed (n.val + 1) (s.displayed n).code else s'
  else s

/-- The counter reaches a position: every check made there is made together (R91, R92). Channels that enter
FAILED together report it in the order of their numbers (R94; DESIGN CHOICE, log 14). -/
def checkAt (pos : Nat) (sense : BitVec 8) (s : State) : State :=
  allSignals.foldl (checkChannel pos sense) (s.modSignals fun x => { x with position := pos })

/-! ## Red Proven (R95) -/

/-- A channel is PROVEN. -/
def State.proven (s : State) (n : SignalId) : Bool := (s.signal n).proof == .proven

/-- Derive Red Proven for both approaches (R95). -/
def deriveRed (s : State) : State :=
  s.modSignals fun x =>
    { x with redProven1 := s.proven 0 || s.proven 1, redProven2 := s.proven 3 || s.proven 4 }

/-- Red Proven for a barrier's approach (R107). -/
def State.redProven (s : State) : Barrier → Bool
  | .one => s.signals.redProven1
  | .two => s.signals.redProven2

/-! ## Clear and reset release (R96, R97) -/

/-- An accepted ROAD Fault Clear acts on one channel (R96). -/
def SignalChannel.cleared (x : SignalChannel) : SignalChannel :=
  if x.proof = .failed then { x with proof := .unproven, miss := 0, failFlag := false }
  else { x with failFlag := false }

/-- An accepted ROAD Fault Clear acts on all eight channels (R96). -/
def clearSignals (s : State) : State := allSignals.foldl (fun s n => s.modSignal n (·.cleared)) s

/-- The Signal Driver at reset release, with the aspects of the initial Closure State (R97). -/
def signalsOnRelease (aspects : Vector Aspect 8) (s : State) : State :=
  let s := s.modSignals fun x =>
    { x with position := 0, periodInUse := Param.flashPeriod s.prof, lampTest := lampTestDue s,
             redProven1 := false, redProven2 := false }
  let one (s : State) (n : SignalId) : State :=
    let s := s.modSignal n fun x => { x with commanded := aspects[n] }
    s.modSignal n fun x =>
      { x with proof := if s.displayed n = .dark then .dark else .unproven, miss := 0,
               checked := false, lastSense := .none, failFlag := false }
  allSignals.foldl one s

end Sys2Proof.Machine
end

