-- ==== Sys2Proof/Machine/Drives.lean ====
section
/-! DEFINITION. The Gate Drive Units (spec/06): commands, the start procedure, limits, travel, faults,
and the penstock's encoder, reference, stall and torque switch. Each operation answers the new state and
what the drive delivers to its commander. -/

namespace Sys2Proof.Machine

/-- What a drive delivers to its commander (R102, R105, R108). -/
inductive News where
  | quiet
  | arrived (a : Arrival)
  | obstructed
  | faulted
  deriving DecidableEq, Repr

/-- A command given to a drive: UP or DOWN, with a Stop Count or none, and STOP (6.2). -/
inductive DriveCommand where
  | up (stop : Option Nat)
  | down (stop : Option Nat)
  | stop
  deriving DecidableEq, Repr

/-- Limit Position (R98). -/
inductive LimitPosition where
  | up
  | down
  | mid
  deriving DecidableEq, Repr

/-- Position State (R112). -/
inductive PositionState where
  | seated
  | openLimit
  | intermediate
  | unreferenced
  deriving DecidableEq, Repr

/-! ## What is read of a drive -/

/-- The qualified level of the limit in a direction of travel, up when true. -/
def State.limit (s : State) (d : DriveId) (up : Bool) : Bool :=
  s.level (if up then .upLimit d else .downLimit d)

/-- Limit Position (R98). -/
def State.limitPosition (s : State) (d : DriveId) : LimitPosition :=
  if s.limit d true && !s.limit d false then .up
  else if s.limit d false && !s.limit d true then .down
  else .mid

/-- The motor is on (R98). -/
def Drive.isDriving (x : Drive) : Bool := x.state == .drivingUp || x.state == .drivingDown

/-- The direction named up or down. -/
def directionOf (up : Bool) : Direction := if up then .up else .down

/-- The penstock opening (R112). -/
def State.position (s : State) : Nat :=
  min 1000 (s.gates.stem.count * 1000 / Param.travelCounts s.prof)

/-- Position State, the first row of R112 that applies. -/
def State.positionState (s : State) : PositionState :=
  if s.limit .penstock false || s.gates.stem.seatFlag then .seated
  else if !s.gates.stem.referenced then .unreferenced
  else if s.limit .penstock true then .openLimit
  else .intermediate

/-! ## Stopping and completing -/

/-- Write the Stop Count; a barrier has none. -/
def setStopCount (d : DriveId) (n : Option Nat) (s : State) : State :=
  if d = .penstock then s.modStem fun x => { x with stopCount := n } else s

/-- A motor stop (R98), if the motor is on: Last Direction, Dwell Timer, Travel Timer and Stall Timer. -/
def motorStop (d : DriveId) (s : State) : State :=
  let x := s.drive d
  if x.isDriving then
    let s := s.modDrive d fun x =>
      { x with lastDir := directionOf (x.state == .drivingUp), travel := .stopped,
               dwell := .running (Param.reversalDwell s.prof) }
    if d = .penstock then s.modStem fun y => { y with stall := .stopped } else s
  else s

/-- The drive rests in STOPPED with an Arrival; Pending Direction and Stop Count become NONE. That the
Stop Count becomes NONE where a command completes at once by case 1, 2 or 3 of R99, and at the motor stop of
R110, is a DESIGN CHOICE, log 35. -/
def rest (d : DriveId) (a : Arrival) (s : State) : State :=
  setStopCount d none (s.modDrive d fun x => { x with state := .stopped, pending := .none, arrival := a })

/-- A motor stop after which the drive stands in STOPPED with Arrival NONE. -/
def stopShort (d : DriveId) (s : State) : State := rest d .none (motorStop d s)

/-- A command completes: STOPPED, its Arrival, DRIVE_ARRIVED appended, the arrival delivered (R99, R102,
R112, R114). -/
def arrive (d : DriveId) (a : Arrival) (s : State) : State × News :=
  ((rest d a (motorStop d s)).append .driveArrived (driveIndex d) a.code, .arrived a)

/-- Entry to FAULTED (R105). -/
def faultDrive (d : DriveId) (c : DriveFault) (s : State) : State × News :=
  let s := rest d .none (motorStop d s)
  ((s.modDrive d fun x => { x with state := .faulted, fault := c }).append
    .driveFault (driveIndex d) c.code, .faulted)

/-! ## The start procedure (R99) -/

/-- A Stop Count is reached in a direction (R99 case 3, R112). -/
def stopReached (s : State) (up : Bool) : Option Nat → Bool
  | none => false
  | some n => if up then decide (n ≤ s.gates.stem.count) else decide (s.gates.stem.count ≤ n)

/-- The dwell governs a direction (R99 case 4). -/
def dwellGoverns (x : Drive) (up : Bool) : Bool :=
  x.dwell.isRunning && (x.lastDir == .both || x.lastDir == directionOf !up)

/-- The motor starts (R99 case 5); a barrier that starts down under an active obstruction stops again in
the same event (R108). -/
def startMotor (d : DriveId) (up : Bool) (stop : Option Nat) (s : State) : State × News :=
  let s := s.modDrive d fun x =>
    { x with state := if up then .drivingUp else .drivingDown, pending := .none, arrival := .none,
             travel := .running (Param.travelTime s.prof d) }
  match d with
  | .penstock =>
    (s.modStem fun x =>
      { x with stall := .running (Param.stallTime s.prof), stopCount := stop,
               seatFlag := x.seatFlag && !up }, .quiet)
  | .barrier b =>
    if !up && s.level (.obstruction b) then (stopShort d s, .obstructed) else (s, .quiet)

/-- The start procedure for a direction and a Stop Count (R99): the first case that applies. Case 4 holds the
Stop Count "if carried"; that a command carrying none makes the held one NONE there, be it one held in DWELL
(R101) or one of a motion just stopped (R100), is a DESIGN CHOICE, log 35. -/
def startProcedure (d : DriveId) (up : Bool) (stop : Option Nat) (s : State) : State × News :=
  if s.limit d up then arrive d (if up then .up else .down) s
  else if d = .penstock ∧ !up ∧ s.gates.stem.seatFlag then arrive d .seat s
  else if stopReached s up stop then arrive d .count s
  else if dwellGoverns (s.drive d) up then
    (setStopCount d stop (s.modDrive d fun x =>
      { x with state := .dwell, pending := directionOf up, arrival := .none }), .quiet)
  else startMotor d up stop s

/-! ## Commands (R99, R100, R101, R107, R112) -/

/-- A command in the direction of the present motion (R100). -/
def sameDirection (d : DriveId) (up : Bool) (stop : Option Nat) (s : State) : State × News :=
  let s := setStopCount d stop s
  if stopReached s up stop then arrive d .count s else (s, .quiet)

/-- An UP or DOWN command, once it is not ignored (R99, R100, R101). -/
def moveDrive (d : DriveId) (up : Bool) (stop : Option Nat) (s : State) : State × News :=
  match (s.drive d).state with
  | .stopped => startProcedure d up stop s
  | .dwell =>
    if (s.drive d).pending = directionOf up then (setStopCount d stop s, .quiet)
    else startProcedure d up stop s
  | .drivingUp => if up then sameDirection d up stop s else startProcedure d up stop (motorStop d s)
  | .drivingDown => if up then startProcedure d up stop (motorStop d s) else sameDirection d up stop s
  | .faulted => (s, .quiet)

/-- A STOP command (R99, R100, R101, R105). -/
def stopDrive (d : DriveId) (s : State) : State :=
  match (s.drive d).state with
  | .stopped | .faulted => s
  | .dwell | .drivingUp | .drivingDown => stopShort d s

/-- The Down Permit lets a command pass (R107): a barrier's DOWN needs it. -/
def permitted (s : State) (d : DriveId) (up : Bool) : Bool :=
  match d with
  | .barrier _ => up || (s.drive d).permit
  | .penstock => true

/-- An UP or DOWN command as it arrives: a barrier's DOWN without its permit is ignored (R107), a command
with a Stop Count while UNREFERENCED is handled as STOP (R112). -/
def commandMove (d : DriveId) (up : Bool) (stop : Option Nat) (s : State) : State × News :=
  if !permitted s d up then (s, .quiet)
  else if stop.isSome && !s.gates.stem.referenced then (stopDrive d s, .quiet)
  else moveDrive d up stop s

/-- A command given to a drive (6.2). -/
def commandDrive (d : DriveId) (c : DriveCommand) (s : State) : State × News :=
  match c with
  | .up stop => commandMove d true stop s
  | .down stop => commandMove d false stop s
  | .stop => (stopDrive d s, .quiet)

/-! ## Timers (R101, R103, R113) -/

/-- The Dwell Timer expires (R101, R107). -/
def dwellExpired (d : DriveId) (s : State) : State × News :=
  if (s.drive d).dwell.isRunning then
    let s := s.modDrive d fun x => { x with dwell := .expired }
    let up := (s.drive d).pending == .up
    if (s.drive d).state = .dwell then
      if permitted s d up then startProcedure d up (if d = .penstock then s.gates.stem.stopCount else none) s
      else (rest d .none s, .quiet)
    else (s, .quiet)
  else (s, .quiet)

/-- The Travel Timer expires (R103). -/
def travelExpired (d : DriveId) (s : State) : State × News :=
  if (s.drive d).travel.isRunning && (s.drive d).isDriving then faultDrive d .travelTimeout s
  else (s, .quiet)

/-- The Stall Timer expires (R113). -/
def stallExpired (s : State) : State × News :=
  if s.gates.stem.stall.isRunning && s.gates.penstock.isDriving then faultDrive .penstock .stall s
  else (s, .quiet)

/-! ## Inputs (R102, R104, R107, R108, R111, R114) -/

/-- The penstock's reference at a limit that has become active (R111). -/
def referenceAtLimit (up : Bool) (s : State) : State :=
  let x := s.gates.stem
  let tc := Param.travelCounts s.prof
  if !up then s.modStem fun x => { x with count := 0, referenced := true }
  else if x.referenced && decide (Param.limitTolerance s.prof < (x.count - tc) + (tc - x.count)) then
    (s.modStem fun x => { x with referenced := false, seatFlag := false }).append
      .referenceSuspect 3 x.count
  else s

/-- The drive is driving in a direction. -/
def Drive.drivesToward (x : Drive) (up : Bool) : Bool :=
  if up then x.state == .drivingUp else x.state == .drivingDown

/-- A limit's qualified level has changed (R102, R104, R111). The reference is judged first, then a conflict,
then an arrival (DESIGN CHOICE, log 11). -/
def limitChanged (d : DriveId) (up : Bool) (s : State) : State × News :=
  let active := s.limit d up
  let s := if d = .penstock ∧ active then referenceAtLimit up s else s
  if s.limit d true && s.limit d false && (s.drive d).state != .faulted then faultDrive d .limitConflict s
  else if active && (s.drive d).drivesToward up then arrive d (if up then .up else .down) s
  else (s, .quiet)

/-- A barrier's Down Permit is judged (R107). -/
def setPermit (b : Barrier) (p : Bool) (s : State) : State :=
  let d := DriveId.barrier b
  let s := s.modDrive d fun x => { x with permit := p }
  let x := s.drive d
  if !p && ((x.state == .dwell && x.pending == .down) || x.state == .drivingDown) then stopShort d s
  else s

/-- OBSTRUCTION becomes active (R108). -/
def obstructionActive (b : Barrier) (s : State) : State × News :=
  if (s.drive (.barrier b)).state = .drivingDown then (stopShort (.barrier b) s, .obstructed)
  else (s, .quiet)

/-- The torque switch becomes active (R114). A judgement takes the Seat Band now in force, and the Seat
Flag it sets is held to that one until the next (R115). -/
def torqueActive (s : State) : State × News :=
  match s.gates.penstock.state with
  | .drivingUp => faultDrive .penstock .torqueTrip s
  | .drivingDown =>
    let s := s.modStem fun x => { x with seatBand := Param.seatBand s.prof }
    if s.gates.stem.referenced && decide (s.gates.stem.count ≤ s.gates.stem.seatBand) then
      arrive .penstock .seat (s.modStem fun x => { x with seatFlag := true })
    else faultDrive .penstock .torqueTrip s
  | .stopped | .dwell | .faulted => (s, .quiet)

/-! ## The encoder (R109, R110, R112, R113) -/

/-- The Stall Timer restarts while the drive is driving (R113). -/
def restartStall (s : State) : State :=
  if s.gates.penstock.isDriving then
    s.modStem fun x => { x with stall := .running (Param.stallTime s.prof) }
  else s

/-- An accepted edge of a channel is in the opening direction (R109): a change of A while A and B agree, a
change of B while they differ. -/
def opens (e : EncoderChannel) (x : Stem) : Bool :=
  match e with
  | .a => x.encA == x.encB
  | .b => x.encA != x.encB

/-- The count one step on, saturated at both ends (R109). -/
def stepCount (opening : Bool) (n : Nat) : Nat := if opening then min 65535 (n + 1) else n - 1

/-- The Encoder Levels take the sampled levels (R109). -/
def Stem.toggle (e : EncoderChannel) (x : Stem) : Stem :=
  match e with
  | .a => { x with encA := !x.encA }
  | .b => { x with encB := !x.encB }

/-- The Seat Flag at a new count (R114): it clears when the count rises above the Seat Band it was judged
by (R115). -/
def Stem.flagAt (n : Nat) (x : Stem) : Bool := x.seatFlag && !(decide (x.count < n) && decide (x.seatBand < n))

/-- An accepted edge (R109, R112, R113, R114). -/
def acceptEdge (e : EncoderChannel) (s : State) : State × News :=
  let n := stepCount (opens e s.gates.stem) s.gates.stem.count
  let s := s.modStem fun x =>
    { x.toggle e with count := n, seatFlag := x.flagAt n }
  let s := restartStall s
  let x := s.gates.penstock
  if x.isDriving && stopReached s (x.state == .drivingUp) s.gates.stem.stopCount then
    arrive .penstock .count s
  else (s, .quiet)

/-- A double transition (R110). That its motor stop leaves Stop Count NONE is a DESIGN CHOICE, log 35. -/
def doubleEdge (s : State) : State :=
  let was := s.gates.stem.referenced
  let s := s.modStem fun x =>
    { x with encA := !x.encA, encB := !x.encB, referenced := false, seatFlag := false }
  let s := restartStall s
  let s := if was then s.append .referenceLost 3 s.gates.stem.count else s
  if s.gates.penstock.isDriving && s.gates.stem.stopCount.isSome then stopShort .penstock s else s

/-! ## Clear and reset release (R106, R116) -/

/-- An accepted clear reaches a drive (R106). -/
def clearDrive (d : DriveId) (s : State) : State :=
  if (s.drive d).state = .faulted then
    if s.limit d true && s.limit d false then s.modDrive d fun x => { x with fault := .limitConflict }
    else s.modDrive d fun x => { x with state := .stopped, fault := .none, arrival := .none }
  else s

/-- One drive at reset release (R116). -/
def driveOnRelease (s : State) (d : DriveId) : State :=
  let s := s.modDrive d fun _ =>
    { Drive.atReset with dwell := .running (Param.reversalDwell s.prof) }
  if s.limit d true && s.limit d false then (faultDrive d .limitConflict s).1 else s

/-- The Gate Drive Units at reset release (R116), with the encoder's levels at that moment. Drives found
with both limits active report it as BARRIER_1, BARRIER_2, PENSTOCK (DESIGN CHOICE, log 14). -/
def drivesOnRelease (encA encB : Bool) (s : State) : State :=
  let s := s.modStem fun _ =>
    { count := 0, referenced := s.limit .penstock false, seatFlag := false, stopCount := none,
      stall := .stopped, encA := encA, encB := encB, seatBand := Param.seatBand s.prof }
  [DriveId.barrier .one, .barrier .two, .penstock].foldl driveOnRelease s

end Sys2Proof.Machine
end

