-- ==== Sys2Proof/Machine/Closure.lean ====
section
/-! DEFINITION. The Closure Sequencer (spec/08): entering states, triggers, clearance, lowering, raising,
halting and the road commands. -/

namespace Sys2Proof.Machine

/-! ## Reading -/

/-- The two barriers. -/
def bothBarriers : List Barrier := [.one, .two]

/-- Trigger Active (R130). -/
def Closure.trigger (x : Closure) : Bool := x.depth || x.sumpBackup || x.roadFlood

/-- Both approaches are Red Proven. -/
def bothRed (s : State) : Bool := s.signals.redProven1 && s.signals.redProven2

/-- Either barrier drive is FAULTED (R136, R139). -/
def barrierFaulted (s : State) : Bool :=
  s.gates.barrier1.state == .faulted || s.gates.barrier2.state == .faulted

/-- Both barriers have Limit Position UP (R139). -/
def barriersUp (s : State) : Bool :=
  s.limitPosition (.barrier .one) == .up && s.limitPosition (.barrier .two) == .up

/-- Barrier Phase of a barrier. -/
def Closure.phase (x : Closure) : Barrier → BarrierPhase
  | .one => x.phase1
  | .two => x.phase2

/-- Write a Barrier Phase. -/
def setPhase (b : Barrier) (p : BarrierPhase) (s : State) : State :=
  s.modClosure fun x =>
    match b with
    | .one => { x with phase1 := p }
    | .two => { x with phase2 := p }

/-- Clear Wait Timer of a barrier. -/
def Closure.clearWait (x : Closure) : Barrier → Timer
  | .one => x.clearWait1
  | .two => x.clearWait2

/-- Write a Clear Wait Timer. -/
def setClearWait (b : Barrier) (t : Timer) (s : State) : State :=
  s.modClosure fun x =>
    match b with
    | .one => { x with clearWait1 := t }
    | .two => { x with clearWait2 := t }

/-- Both Barrier Phases stand at a phase. -/
def bothPhases (s : State) (p : BarrierPhase) : Bool :=
  s.closure.phase1 == p && s.closure.phase2 == p

/-! ## Entering a state (R128) -/

/-- The aspects of each Closure State (R128), channel 1 first. -/
def aspectsOf : ClosureState → Vector Aspect 8
  | .open => #v[.dark, .dark, .dark, .dark, .dark, .dark, .dark, .dark]
  | .alert => #v[.dark, .dark, .flashA, .dark, .dark, .flashB, .steady, .steady]
  | .stop | .lowering | .closed | .raising | .halted =>
    #v[.steady, .steady, .dark, .steady, .steady, .dark, .steady, .steady]

/-- The Down Permits are judged from the Closure State and Red Proven (R107). -/
def judgePermits (s : State) : State :=
  bothBarriers.foldl
    (fun s b => setPermit b (s.closure.state == .lowering && s.redProven b) s) s

/-- The timers and phases that a state's entry stops and clears (R128, R133). -/
def Closure.enter (new : ClosureState) (halt : HaltCause) (x : Closure) : Closure :=
  { x with
    state := new, halt := halt
    alert := if new = .alert then x.alert else .stopped
    clearance := .stopped, held := false
    clearWait1 := if new = .lowering then x.clearWait1 else .stopped
    clearWait2 := if new = .lowering then x.clearWait2 else .stopped
    phase1 := if new = .lowering ∨ new = .raising then x.phase1 else .none
    phase2 := if new = .lowering ∨ new = .raising then x.phase2 else .none }

/-- A change of the Closure State up to the commands it gives (R128): state and event, Lamp Test, aspects
(with Red Proven derived after them, R95), Down Permits. -/
def changeState (new : ClosureState) (halt : HaltCause) (s : State) : State :=
  let s := (s.modClosure (·.enter new halt)).append .closureState 0 new.code
  judgePermits (deriveRed (writeAspects (aspectsOf new) (judgeLampTest s)))

/-- Command both barriers STOP. -/
def stopBarriers (s : State) : State := bothBarriers.foldl (fun s b => stopDrive (.barrier b) s) s

/-- The automatic triggers act (R131): Trigger Active under AUTO or a link. -/
def triggersAct (s : State) : Bool := s.closure.trigger && s.authority.road != .hand

/-- Entry to ALERT (R132). -/
def toAlert (s : State) : State :=
  (changeState .alert .none s).modClosure fun x =>
    { x with obstructions := 0, alert := .running (Param.alertTime s.prof) }

/-- Entry to OPEN; a standing trigger acts at once (R131). -/
def toOpen (s : State) : State :=
  let s := changeState .open .none s
  if triggersAct s then toAlert s else s

/-- The Clearance Timer runs while both approaches are Red Proven and is held otherwise (R133). -/
def judgeClearance (s : State) : State :=
  if bothRed s then
    s.modClosure fun x => { x with clearance := .running (Param.clearanceTime s.prof), held := false }
  else s.modClosure fun x => { x with clearance := .stopped, held := true }

/-- Entry to STOP (R133). -/
def toStop (s : State) : State := judgeClearance (changeState .stop .none s)

/-- Entry to CLOSED (R138). -/
def toClosed (s : State) : State := changeState .closed .none s

/-- Entry to HALTED: both barriers are commanded STOP (R136). -/
def toHalted (c : HaltCause) (s : State) : State := stopBarriers (changeState .halted c s)

/-! ## Lowering (R134, R135, R136) -/

/-- The Clear Wait Timer runs while the Obstruction Input is inactive and stands stopped at full while it
is active (R135). -/
def judgeClearWait (b : Barrier) (s : State) : State :=
  setClearWait b
    (if s.level (.obstruction b) then .stopped else .running (Param.obstructionClearTime s.prof)) s

/-- An arrival in LOWERING (R134, R135). -/
def loweringArrival (b : Barrier) (a : Arrival) (s : State) : State :=
  if a = .down ∧ s.closure.phase b = .descending then
    let s := setPhase b .downDone s
    if bothPhases s .downDone then toClosed s else s
  else if a = .up ∧ s.closure.phase b = .retreating then judgeClearWait b (setPhase b .clearWait s)
  else s

/-- The Obstruction Count after one more obstruction; past 255 the spec names no value (log 9). -/
def countObstruction (n : Nat) : Nat :=
  if n < 255 then n + 1 else Config.obstructionCountPast255.toNat

/-- An obstruction delivered in LOWERING (R135, R136). -/
def loweringObstruction (b : Barrier) (s : State) : State :=
  let n := countObstruction s.closure.obstructions
  let s := (s.modClosure fun x => { x with obstructions := n }).append
    .barrierObstructed (driveIndex (.barrier b)) n
  if Param.obstructionRetries s.prof < n then toHalted .obstructionLimit s
  else
    let (s, news) := commandDrive (.barrier b) (.up none) (setPhase b .retreating s)
    match news with
    | .arrived a => loweringArrival b a s
    | .quiet | .obstructed | .faulted => s

/-- What a barrier drive delivers while the state may be LOWERING, after a DOWN command (R134 to R136). -/
def loweringNews (b : Barrier) (news : News) (s : State) : State :=
  if s.closure.state = .lowering then
    match news with
    | .arrived a => loweringArrival b a s
    | .obstructed => loweringObstruction b s
    | .faulted => toHalted .travelFault s
    | .quiet => s
  else s

/-- The barrier descends: phase DESCENDING and a DOWN command (R134, R135). -/
def descend (b : Barrier) (s : State) : State × News :=
  commandDrive (.barrier b) (.down none) (setPhase b .descending s)

/-- Entry to LOWERING, or to HALTED in its place while a barrier drive is FAULTED (R134, R136). Barrier 1 is
commanded before barrier 2, and only then does the news of each, in that order, count (DESIGN CHOICE,
log 14). -/
def toLowering (s : State) : State :=
  if barrierFaulted s then toHalted .travelFault s
  else
    let s := setPhase .two .descending (setPhase .one .descending (changeState .lowering .none s))
    let (s, n1) := commandDrive (.barrier .one) (.down none) s
    let (s, n2) := commandDrive (.barrier .two) (.down none) s
    loweringNews .two n2 (loweringNews .one n1 s)

/-! ## Raising and re-closing (R140) -/

/-- Re-close from RAISING (R140). -/
def reclose (s : State) : State :=
  let s := stopBarriers s
  if bothRed s then toLowering s else toStop s

/-- An arrival in RAISING (R140). -/
def raisingArrival (b : Barrier) (a : Arrival) (s : State) : State :=
  if a = .up ∧ s.closure.phase b = .ascending then
    let s := setPhase b .upDone s
    if bothPhases s .upDone then toOpen s else s
  else s

/-- What a barrier drive delivers while the state may be RAISING (R136, R140). -/
def raisingNews (b : Barrier) (news : News) (s : State) : State :=
  if s.closure.state = .raising then
    match news with
    | .arrived a => raisingArrival b a s
    | .faulted => toHalted .travelFault s
    | .quiet | .obstructed => s
  else s

/-- Entry to RAISING (R140). Barrier 1 is commanded UP before barrier 2, and only then does the news of each,
in that order, count (DESIGN CHOICE, log 14); a trigger that stands is judged after the arrivals of the
commands (R131, DESIGN CHOICE, log 11). -/
def toRaising (s : State) : State :=
  let s := setPhase .two .ascending (setPhase .one .ascending (changeState .raising .none s))
  let (s, n1) := commandDrive (.barrier .one) (.up none) s
  let (s, n2) := commandDrive (.barrier .two) (.up none) s
  let s := raisingNews .two n2 (raisingNews .one n1 s)
  if s.closure.state = .raising ∧ triggersAct s then reclose s else s

/-! ## Triggers (R129, R130, R131) -/

/-- The trigger acts by the table of R131. -/
def triggerByState (s : State) : State :=
  match s.closure.state with
  | .open => toAlert s
  | .raising => reclose s
  | .halted => if s.closure.halt = .resetMidTravel then toStop s else s
  | .alert | .stop | .lowering | .closed => s

/-- The advised condition (R131). -/
def advisedNow (s : State) : Bool :=
  s.authority.road == .hand && s.closure.trigger
    && (s.closure.state == .open || s.closure.state == .raising
      || (s.closure.state == .halted && s.closure.halt == .resetMidTravel))

/-- The code of the lowest set Trigger Flag (R131, 12.7): DEPTH 0, SUMP_BACKUP 1, ROAD_FLOOD 2. -/
def lowestFlag (x : Closure) : Nat := if x.depth then 0 else if x.sumpBackup then 1 else 2

/-- Judge the advised condition; its onset appends CLOSURE_ADVISED (R131). -/
def judgeAdvised (s : State) : State :=
  let now := advisedNow s
  let s' := s.modClosure fun x => { x with advised := now }
  if now && !s.closure.advised then s'.append .closureAdvised 0 (lowestFlag s.closure) else s'

/-- Judge a standing trigger as a level, then the advised condition (R131). -/
def judgeTrigger (s : State) : State := judgeAdvised (if triggersAct s then triggerByState s else s)

/-- The Trigger Flags have been judged since `before`: a change of Trigger Active to true is handled by
R131. -/
def flagsJudged (before s : State) : State :=
  if s.closure.trigger && !before.closure.trigger then judgeTrigger s else judgeAdvised s

/-- The depth judgement (R129); under BUILTIN it is not made (R130). -/
def judgeDepth (s : State) : State :=
  if !s.profile.site then s
  else
    let x := s.channels.carriageway
    let time := Param.confirmTime s.prof
    if x.state == .healthy && decide (Param.closureDepth s.prof ≤ x.reported) then
      if s.closure.depth || s.closure.confirm.isRunning then s
      else if time = 0 then s.modClosure fun y => { y with depth := true, confirm := .expired }
      else s.modClosure fun y => { y with confirm := .running time }
    else s.modClosure fun y => { y with depth := false, confirm := .stopped }

/-- The sump backup judgement (R130). -/
def judgeSumpBackup (s : State) : State :=
  if !s.profile.site then s
  else s.modClosure fun x =>
    { x with sumpBackup := s.channels.carriageway.state != .healthy && s.sump.valid
                && decide (Param.sumpClosureLevel s.prof ≤ s.sump.level) }

/-- The Closure Sequencer at a CARRIAGEWAY judgement, with the sump backup judged too when the channel's
State has changed (R129, R130). -/
def closureOnCarriageway (stateChanged : Bool) (s : State) : State :=
  let s' := judgeDepth s
  flagsJudged s (if stateChanged then judgeSumpBackup s' else s')

/-- The Closure Sequencer at a Sump Level update (R130). -/
def closureOnSump (s : State) : State := flagsJudged s (judgeSumpBackup s)

/-- The ROAD_FLOOD float has changed (R130). -/
def closureOnFlood (s : State) : State :=
  flagsJudged s (s.modClosure fun x => { x with roadFlood := s.level (.float .roadFlood) })

/-- The Confirm Timer expires: the DEPTH flag is set (R129). -/
def confirmExpired (s : State) : State :=
  if s.closure.confirm.isRunning then
    flagsJudged s (s.modClosure fun x => { x with confirm := .expired, depth := true })
  else s

/-! ## Timers of the sequence -/

/-- The Alert Timer expires (R132). -/
def alertExpired (s : State) : State :=
  if s.closure.alert.isRunning && s.closure.state == .alert then judgeAdvised (toStop s) else s

/-- The Clearance Timer expires (R133, R136). -/
def clearanceExpired (s : State) : State :=
  if s.closure.clearance.isRunning && s.closure.state == .stop then judgeAdvised (toLowering s) else s

/-- A Clear Wait Timer expires (R135). -/
def clearWaitExpired (b : Barrier) (s : State) : State :=
  if (s.closure.clearWait b).isRunning && s.closure.phase b == .clearWait then
    let (s, news) := descend b (setClearWait b .expired s)
    judgeAdvised (loweringNews b news s)
  else s

/-! ## What the drives and the signals deliver -/

/-- A barrier drive delivers an arrival, an obstruction or a fault (R134, R135, R136, R140). -/
def barrierNews (b : Barrier) (news : News) (s : State) : State :=
  judgeAdvised (if s.closure.state = .lowering then loweringNews b news s else raisingNews b news s)

/-- A DOWN_DONE barrier whose Limit Position leaves DOWN in LOWERING is commanded DOWN again (R134). -/
def barrierLeftDown (b : Barrier) (s : State) : State :=
  if s.closure.state = .lowering ∧ s.closure.phase b = .downDone
      ∧ s.limitPosition (.barrier b) ≠ .down then
    let (s, news) := descend b s
    judgeAdvised (loweringNews b news s)
  else s

/-- A barrier's limit has changed (R102, R104, R134). -/
def barrierLimitChanged (b : Barrier) (up : Bool) (s : State) : State :=
  let (s, news) := limitChanged (.barrier b) up s
  barrierLeftDown b (barrierNews b news s)

/-- A barrier's OBSTRUCTION input has changed (R108, R135). -/
def barrierObstructionChanged (b : Barrier) (s : State) : State :=
  let (s, news) := if s.level (.obstruction b) then obstructionActive b s else (s, .quiet)
  let s := barrierNews b news s
  if s.closure.phase b = .clearWait then judgeClearWait b s else s

/-- Red Proven has been derived since `before`: the permits follow and a change acts in STOP and LOWERING
(R107, R133, R134). -/
def redDelivered (before s : State) : State :=
  if s.signals.redProven1 == before.signals.redProven1
      && s.signals.redProven2 == before.signals.redProven2 then s
  else
    let s := judgePermits s
    match s.closure.state with
    | .stop => judgeClearance s
    | .lowering => if bothRed s then s else judgeAdvised (toStop (stopBarriers s))
    | .open | .alert | .closed | .raising | .halted => s

/-- LAMP TEST has changed (R90, R95). -/
def lampTestChanged (s : State) : State := redDelivered s (deriveRed (judgeLampTest s))

/-! ## Commands (R132, R137, R139, R141) -/

/-- CLOSE, accepted from the holding link or from the panel, in a state other than HALTED (R141). -/
def closeRoad (s : State) : State :=
  match s.closure.state with
  | .open => judgeAdvised (toAlert s)
  | .raising => judgeAdvised (reclose s)
  | .alert | .stop | .lowering | .closed | .halted => s

/-- RESUME in HALTED: both barrier drives are cleared and the road goes to STOP (R137). -/
def resumeRoad (s : State) : State :=
  judgeAdvised (toStop (bothBarriers.foldl (fun s b => clearDrive (.barrier b) s) s))

/-- A reopen would enter RAISING (R139). -/
def reopenRaises (s : State) : Bool :=
  match s.closure.state with
  | .open | .raising => false
  | .alert | .stop => !barriersUp s
  | .lowering | .closed | .halted => true

/-- A reopen that would enter RAISING finds a barrier drive FAULTED (R139). -/
def reopenBlocked (s : State) : Bool := reopenRaises s && barrierFaulted s

/-- A reopen that is accepted acts by state (R139). -/
def reopenRoad (s : State) : State :=
  match s.closure.state with
  | .open | .raising => s
  | .alert | .stop => judgeAdvised (if barriersUp s then toOpen s else toRaising s)
  | .lowering | .closed | .halted => judgeAdvised (toRaising s)

/-- Why the carriageway refuses a link's REOPEN (R139). -/
def reopenDepthRefusal (s : State) : Option Reason :=
  let x := s.channels.carriageway
  if x.state != .healthy then some .depthUnknown
  else if decide (Param.reopenDepth s.prof < x.reported) || s.level (.float .roadFlood) then
    some .depthHigh
  else none

/-- Why a link's REOPEN is refused, depth before state (R139). -/
def reopenRefusal (s : State) : Option Reason :=
  (reopenDepthRefusal s).or (if reopenBlocked s then some .state else none)

/-- Panel CLOSE under HAND (R137, R141). -/
def panelClose (s : State) : State :=
  if s.closure.state = .halted then resumeRoad s else closeRoad s

/-- Panel REOPEN under HAND (R139). -/
def panelReopen (s : State) : State := if reopenBlocked s then s else reopenRoad s

/-! ## Clear and reset release (R96, R106, R144) -/

/-- An accepted ROAD Fault Clear: both barrier drives, then the signal channels (R96, R106). -/
def clearRoad (s : State) : State :=
  let s := bothBarriers.foldl (fun s b => clearDrive (.barrier b) s) s
  redDelivered s (deriveRed (clearSignals s))

/-- The Closure State that the barriers' Limit Positions give at release (R144). -/
def closureAtRelease (s : State) : ClosureState × HaltCause :=
  if barriersUp s then (.open, .none)
  else if s.limitPosition (.barrier .one) == .down && s.limitPosition (.barrier .two) == .down then
    (.closed, .none)
  else (.halted, .resetMidTravel)

/-- The Closure record at reset release (R144). -/
def closureRecordOnRelease (s : State) : State :=
  s.modClosure fun _ =>
    { state := (closureAtRelease s).1, halt := (closureAtRelease s).2, depth := false,
      sumpBackup := false, roadFlood := s.level (.float .roadFlood), confirm := .stopped,
      alert := .stopped, clearance := .stopped, held := false, obstructions := 0, phase1 := .none,
      phase2 := .none, clearWait1 := .stopped, clearWait2 := .stopped, advised := false }

/-- The Closure Sequencer and the Signal Driver at reset release, before the triggers are judged (R97,
R144). -/
def roadOnRelease (s : State) : State :=
  let s := closureRecordOnRelease s
  signalsOnRelease (aspectsOf s.closure.state) s

end Sys2Proof.Machine
end

