-- ==== Sys2Proof/Machine/Pumps.lean ====
section
/-! DEFINITION. The Pump Sequencer (spec/02): pump states, calls, stage calls, stage assignment, Duty
Rotation and Start History. -/

namespace Sys2Proof.Machine

/-! ## What is read of a pump -/

/-- Installed (R23). -/
def State.installed (s : State) (p : PumpId) : Bool := Param.installed s.prof p

/-- RUN_PROVEN is active. -/
def State.runProven (s : State) (p : PumpId) : Bool := s.level (.runProven p)

/-- The stage a pump serves under AUTO: the stage whose Assigned Pump it is (2.1, 2.3). -/
def State.stageOf (s : State) (p : PumpId) : Option StageId :=
  allStages.find? fun k => (s.stage k).assigned == some p

/-- The pump's call and its source (R25); a pump that is not Installed takes none (R23). -/
def State.call (s : State) (p : PumpId) : Call :=
  if !s.installed p then .none
  else match s.authorityOf (.pump p) with
    | .auto => if (s.stageOf p).isSome then .auto else .none
    | .link _ => if s.authority.demands.pumpRun[p] then .link else .none
    | .hand => if s.keyHand p then .hand else .none

/-- The pump is in STARTING or RUNNING: its run line is on (R24). -/
def Pump.isOn (x : Pump) : Bool := x.state == .starting || x.state == .running

/-- The Start History holds Max Starts entries (R25, R48). -/
def State.historyFull (s : State) (p : PumpId) : Bool :=
  decide (Param.maxStarts s.prof p ≤ (s.pump p).history.length)

/-- The pump is startable (R25): the DRY float does not report dry, the history has room, Installed. -/
def State.startable (s : State) (p : PumpId) : Bool :=
  s.level (.float .dry) && !s.historyFull p && s.installed p

/-! ## Start History (R48) -/

/-- Remove the entries aged 3600 s or more from the front of one history (R48). -/
def pruneHistory (now : Clock) (h : List Clock) : List Clock :=
  h.dropWhile fun t => decide (3600 ≤ (now - t).toNat)

/-- Consult one pump's history (R48). -/
def prune (p : PumpId) (s : State) : State :=
  s.modPump p fun x => { x with history := pruneHistory s.stationClock x.history }

/-- Consult every history (R48). -/
def pruneAll (s : State) : State := allPumps.foldl (fun s p => prune p s) s

/-! ## Start Queue positions (R55, R56) -/

/-- Put a new list in the Start Queue; a change of its head starts a load evaluation (R54, R56). Another
head pump, or none, ends the blocking episode at once; the next evaluation opens a new one (R68; log 17). -/
def setQueue (q : List QueueEntry) (s : State) : State :=
  s.modLoad fun x =>
    let y := { x with queue := q, evalDue := x.evalDue || q.head? != x.queue.head? }
    if q.head?.map (·.pump) = x.queue.head?.map (·.pump) then y
    else { y with episode := none, hold := .stopped, heldAppended := false }

/-- Where a new entry goes (R55). HAND entries form the front of the queue. -/
def placeEntry (e : QueueEntry) (requeue : Bool) (q : List QueueEntry) : List QueueEntry :=
  let hands := q.filter fun x => x.source == .hand
  let rest := q.filter fun x => x.source != .hand
  if e.source = .hand then (if requeue then e :: (hands ++ rest) else hands ++ e :: rest)
  else if requeue then hands ++ e :: rest
  else q ++ [e]

/-- An entry leaves the Start Queue (R56). -/
def withdrawEntry (p : PumpId) (s : State) : State :=
  setQueue (s.load.queue.filter fun x => x.pump != p) s

/-- Enter a pump in the Start Queue with its call's source and clear Requeue At Head (R25, R37, R55). -/
def enterQueue (p : PumpId) (s : State) : State :=
  let e : QueueEntry := { pump := p, source := s.call p, queuedAt := s.stationClock }
  (setQueue (placeEntry e (s.pump p).requeue s.load.queue) s).modPump p
    fun x => { x with state := .queued, requeue := false, timer := .stopped }

/-! ## Duty Rotation (R46, R47) -/

/-- Take a pump out of the Duty Rotation (R46). -/
def leaveRotation (p : PumpId) (s : State) : State := s.setRotation (s.rotation.filter (· != p))

/-- A member moves to the tail (R47). -/
def rotateToTail (p : PumpId) (s : State) : State :=
  if p ∈ s.rotation then s.setRotation (s.rotation.filter (· != p) ++ [p]) else s

/-- A pump that meets the three conditions of R46 and is not a member joins at the tail. -/
def joinRotation (p : PumpId) (s : State) : State :=
  if s.installed p && s.authorityOf (.pump p) == .auto && (s.pump p).state != .faulted
      && !s.rotation.contains p then
    s.setRotation (s.rotation ++ [p])
  else s

/-! ## Leaving and entering states -/

/-- A pump leaves STARTING or RUNNING: it leaves the Grant Order and an evaluation is due (R54, R57). -/
def leaveRun (p : PumpId) (s : State) : State :=
  if (s.pump p).isOn then
    s.modLoad fun x => { x with grantOrder := x.grantOrder.filter (· != p), evalDue := true }
  else s

/-- Enter RESTING and start Min Rest (R30). -/
def enterResting (p : PumpId) (s : State) : State :=
  s.modPump p fun x => { x with state := .resting, timer := .running (Param.minRest s.prof p) }

/-- Enter STOPPING: run line off, Stop Proof started; with RUN_PROVEN inactive on to RESTING in the same
event (R30). -/
def enterStopping (p : PumpId) (cause : StopCause) (s : State) : State :=
  let s := (leaveRun p s).modPump p fun x =>
    { x with state := .stopping, stopCause := cause, timer := .running (Param.stopProof s.prof p) }
  if s.runProven p then s else enterResting p s

/-- Enter IDLE. -/
def enterIdle (p : PumpId) (s : State) : State :=
  (leaveRun p s).modPump p fun x => { x with state := .idle, timer := .stopped }

/-- The pump gives up its stage; the stage stays called (R45). -/
def giveUpStage (p : PumpId) (s : State) : State :=
  match s.stageOf p with
  | none => s
  | some k => s.modStage k fun x => { x with assigned := none }

/-- Enter FAULTED (R27, R29, R30, R32): run line off, entry withdrawn, timer stopped, Requeue At Head
cleared, stage given up, out of the rotation, PUMP_FAULT appended. -/
def enterFaulted (p : PumpId) (cause : PumpFaultCause) (s : State) : State :=
  let s := leaveRotation p (giveUpStage p (withdrawEntry p (leaveRun p s)))
  (s.modPump p fun x =>
    { x with state := .faulted, faultCause := cause, timer := .stopped, requeue := false }).append
      .pumpFault (p.val + 1) cause.code

/-- A queued pump is withdrawn and enters IDLE (R25). -/
def queuedToIdle (p : PumpId) (s : State) : State := enterIdle p (withdrawEntry p s)

/-- The pump's call has been withdrawn (R25, R28, R37): Requeue At Head clears; a QUEUED pump returns to
IDLE; a RUNNING pump whose Min Run has expired stops. -/
def withdrawCall (p : PumpId) (s : State) : State :=
  let s := s.modPump p fun x => { x with requeue := false }
  match (s.pump p).state with
  | .queued => queuedToIdle p s
  | .running => if (s.pump p).timer.isRunning then s else enterStopping p .callEnded s
  | _ => s

/-! ## Assignment and queueing (R25, R44, R45) -/

/-- The pump that an unassigned called stage is given to (R44). -/
def candidate (s : State) : Option PumpId :=
  (s.rotation.find? fun p => (s.pump p).isOn && (s.stageOf p).isNone).or
    (s.rotation.find? fun p =>
      (s.pump p).state == .idle && s.startable p && (s.stageOf p).isNone)

/-- Give one stage to a pump if it is called, unassigned and a pump qualifies (R44). -/
def assignStage (s : State) (k : StageId) : State :=
  if (s.stage k).called && (s.stage k).assigned.isNone then
    match candidate s with
    | some p => s.modStage k fun x => { x with assigned := some p }
    | none => s
  else s

/-- Give the unassigned called stages, lowest first (R44). -/
def assignStages (s : State) : State := allStages.foldl assignStage s

/-- A QUEUED pump that has stopped being startable is withdrawn (R25). -/
def dropUnstartable (s : State) (p : PumpId) : State :=
  if (s.pump p).state == .queued && !s.startable p then queuedToIdle p s else s

/-- An IDLE pump at its start limit gives up its stage (R45), also while the DRY float reports dry, which
alone would let it keep the stage, and in the event in which a dead supply sends it to IDLE (R38; DESIGN
CHOICE, log 30). -/
def giveUpIfFull (s : State) (p : PumpId) : State :=
  if (s.pump p).state == .idle && s.historyFull p && (s.stageOf p).isSome then
    withdrawCall p (giveUpStage p s)
  else s

/-- The pump can enter QUEUED now (R25). -/
def State.canQueue (s : State) (p : PumpId) : Bool :=
  (s.pump p).state == .idle && s.call p != .none && s.startable p && decide (0 < s.load.budget)
    && !s.runProven p

/-- The order in which pumps that can enter QUEUED together are entered (R25). -/
def queueOrder (s : State) : List PumpId :=
  let can := allPumps.filter s.canQueue
  let first := can.filter fun p => (s.pump p).requeue
  let rest := can.filter fun p => !(s.pump p).requeue
  first ++ allStages.filterMap (fun k => rest.find? fun p => s.call p == .auto && s.stageOf p == some k)
    ++ rest.filter fun p => s.call p != .auto

/-- Enter the pumps that can enter QUEUED (R25). -/
def enterWaiting (s : State) : State := (queueOrder s).foldl (fun s p => enterQueue p s) s

/-- What the Pump Sequencer judges again after each change of its conditions: histories (R48), queued
pumps (R25), stages given up (R45) and assigned (R44), pumps entering QUEUED (R25). Where one event makes
several changes, it is judged once, after all of them (DESIGN CHOICE, log 33). -/
def settlePumps (s : State) : State :=
  let s := allPumps.foldl dropUnstartable (pruneAll s)
  enterWaiting (assignStages (allPumps.foldl giveUpIfFull s))

/-! ## Stage calls (2.3) -/

/-- The number U of usable stages (2.3). -/
def usableStages (s : State) : Nat := min 4 (Param.maxRunning s.prof)

/-- Release a stage (R39, R44, R47): Called no, Basis NONE, its pump loses the stage; for stage 1 the
pump that served it moves to the tail of the rotation; the pump's call is withdrawn. -/
def releaseStage (k : StageId) (s : State) : State :=
  let served := (s.stage k).assigned
  let s := s.modStage k fun _ => StageCall.none
  match served with
  | none => s
  | some p => withdrawCall p (if k = 0 then rotateToTail p s else s)

/-- Release a stage if it is called. -/
def releaseIfCalled (s : State) (k : StageId) : State :=
  if (s.stage k).called then releaseStage k s else s

/-- Call a stage with a Basis, or give a called stage that Basis (R39, R42, R43). -/
def callStage (basis : Basis) (s : State) (k : StageId) : State :=
  s.modStage k fun x => { x with called := true, basis := basis }

/-- The position of GRAVITY or TIDE_LOCKED is published by the Penstock Controller (R125): GRAVITY only
while the penstock is REFERENCED and unseated at its open limit and the target is OPEN. -/
def State.gravitySet (s : State) : Bool :=
  s.penstock.target == .open && s.level (.upLimit .penstock) && !s.level (.downLimit .penstock)
    && !s.gates.stem.seatFlag && s.gates.stem.referenced

/-- The effective start level of a stage (R40). -/
def effectiveStart (s : State) (k : StageId) : Int :=
  let base : Int := Param.startLevel s.prof s.gravitySet k
  if k ≠ 0 ∧ (Param.rateCall s.prof : Int) ≤ s.sump.rate then base - Param.rateAdvance s.prof else base

/-- Whether each stage is called after an evaluation by level, from stage 1 upward (R39). `below` says
that the stage below is called after its evaluation; a released stage takes every higher one with it. -/
def stageTargets (s : State) : List StageId → Bool → List (StageId × Bool)
  | [], _ => []
  | k :: rest, below =>
    let level : Int := s.sump.level
    let here := if (s.stage k).called then decide ((Param.stopLevel s.prof s.gravitySet k : Int) < level)
      else decide (effectiveStart s k ≤ level)
    let on := below && decide (k.val < usableStages s) && here
    (k, on) :: stageTargets s rest on

/-- A stage evaluation by level (R39, R43): releases highest first, then calls with Basis LEVEL, and only
after them the assignment of R44: an unassigned stage 1 is given no pump that a higher stage's release has
just freed before it is itself released (DESIGN CHOICE, log 33). -/
def levelEvaluation (s : State) : State :=
  let targets := stageTargets s allStages true
  let off := (targets.filter fun t => !t.2).reverse.map (·.1)
  let on := (targets.filter fun t => t.2).map (·.1)
  settlePumps (on.foldl (callStage .level) (off.foldl releaseIfCalled s))

/-- Float mode (R42). -/
def State.floatMode (s : State) : Bool := !s.profile.site || s.sump.source == .floats

/-- Latch a stage by float if it is usable and not called (R42). -/
def latchStage (s : State) (k : StageId) : State :=
  if k.val < usableStages s ∧ !(s.stage k).called then callStage .float s k else s

/-- Latch stages by the floats (R42). -/
def latchByFloats (s : State) : State :=
  if s.level (.float .highHigh) then allStages.foldl latchStage s
  else if s.level (.float .high) then latchStage s 0
  else s

/-- A float evaluation (R42); `stopFell` when the STOP float becoming inactive caused it. Stages are assigned
once, after all releases (DESIGN CHOICE, log 33). -/
def floatEvaluation (stopFell : Bool) (s : State) : State :=
  settlePumps (if stopFell then stagesDown.foldl releaseIfCalled s else latchByFloats s)

/-- Entry to float mode (R42): called stages are kept as latched if STOP is active, else released; then
the latching applies, and stages are assigned once, after all of it (DESIGN CHOICE, log 33). -/
def enterFloatMode (s : State) : State :=
  let keep (s : State) (k : StageId) : State := if (s.stage k).called then callStage .float s k else s
  let s := if s.level (.float .stop) then allStages.foldl keep s else stagesDown.foldl releaseIfCalled s
  settlePumps (latchByFloats s)

/-- The Pump Sequencer at a Sump Level update that found the source `old` before it (R39, R42, R43). -/
def pumpsOnSump (old : SumpSource) (s : State) : State :=
  if !s.profile.site then s
  else if s.sump.source ≠ .floats then levelEvaluation s
  else if old ≠ .floats then enterFloatMode s
  else s

/-! ## Inputs -/

/-- RUN_PROVEN becomes active (R27, R31, R33). -/
def runProvenActive (p : PumpId) (s : State) : State :=
  match (s.pump p).state with
  | .starting =>
    settlePumps <|
      (s.modPump p fun x =>
        { x with state := .running, timer := .running (Param.minRun s.prof p) }).modLoad
          fun x => { x with stagger := .running (Param.startStagger s.prof), evalDue := true }
  | .idle | .queued | .resting => settlePumps (enterStopping p .uncommanded (withdrawEntry p s))
  | .running | .stopping | .faulted => s

/-- RUN_PROVEN becomes inactive (R25, R29, R30). -/
def runProvenInactive (p : PumpId) (s : State) : State :=
  match (s.pump p).state with
  | .running => if s.load.supply = .dead then s else settlePumps (enterFaulted p .runLost s)
  | .stopping => settlePumps (enterResting p s)
  | .idle => settlePumps s
  | .queued | .starting | .resting | .faulted => s

/-- TRIPPED becomes active (R23, R32). -/
def trippedActive (p : PumpId) (s : State) : State :=
  if s.installed p && (s.pump p).state != .faulted then settlePumps (enterFaulted p .tripped s) else s

/-- SEAL_WARNING becomes active (R47): a member of the rotation moves to the tail. -/
def sealWarningActive (p : PumpId) (s : State) : State :=
  if s.installed p then settlePumps (rotateToTail p s) else s

/-- One pump when the DRY float comes to report dry (R34). -/
def stopDry (s : State) (p : PumpId) : State :=
  if (s.pump p).isOn then enterStopping p .dry s
  else if (s.pump p).state == .queued then queuedToIdle p s
  else s

/-- The DRY float comes to report dry (R34). -/
def dryProtection (s : State) : State := allPumps.foldl stopDry s

/-- The Pump Sequencer's part of a float change (R22, R34, R42). -/
def pumpsOnFloat (f : FloatId) (s : State) : State :=
  let s := if f = .dry ∧ !s.level (.float .dry) then dryProtection s else s
  if s.floatMode then floatEvaluation (f == .stop && !s.level (.float .stop)) s else settlePumps s

/-- One pump when the Supply State becomes DEAD (R38). -/
def loseSupply (s : State) (p : PumpId) : State :=
  if (s.pump p).isOn then
    (enterIdle p s).modPump p fun x => { x with stopCause := .supplyLost }
  else s

/-! ## Authority, demand, key, clear -/

/-- A QUEUED pump whose authority has changed (R35): its old entry is withdrawn, and a new one made at
once if the new call stands and the pump is startable. -/
def requeueOnAuthority (p : PumpId) (s : State) : State :=
  let s := withdrawEntry p s
  if s.call p != .none && s.startable p then enterQueue p s else enterIdle p s

/-- The pump's authority has changed from `old` (R35, R36, R44, R46). Requeue At Head clears with a call
that is now NONE; a call that stands under its new source keeps it (R37; DESIGN CHOICE, log 30). -/
def pumpAuthorityChanged (p : PumpId) (old : Authority) (s : State) : State :=
  let s := if old = .auto then leaveRotation p (giveUpStage p s) else s
  let s := assignStages (pruneAll (joinRotation p s))
  let s := if s.call p = .none then s.modPump p fun x => { x with requeue := false } else s
  let s := if (s.pump p).isOn && s.authorityOf (.pump p) == .hand && s.keyOff p then
      enterStopping p .handOff s
    else match (s.pump p).state with
      | .queued => requeueOnAuthority p s
      | .running => if s.call p = .none then withdrawCall p s else s
      | _ => s
  settlePumps s

/-- The key of a pump under HAND has moved between HAND and OFF (R36). -/
def pumpKeyMoved (p : PumpId) (s : State) : State :=
  if s.keyOff p then
    let s := s.modPump p fun x => { x with requeue := false }
    settlePumps (if (s.pump p).isOn then enterStopping p .handOff s else withdrawCall p s)
  else settlePumps s

/-- The holding link's demand word for the pump has been stored (R25, R153). -/
def pumpDemandStored (p : PumpId) (s : State) : State :=
  if s.call p = .none then settlePumps (withdrawCall p s) else settlePumps s

/-- An accepted Fault Clear reaches the pump (R33, R46). The TRIPPED input of a pump that is not Installed
is ignored (R23). -/
def clearPump (p : PumpId) (s : State) : State :=
  if (s.pump p).state = .faulted ∧ !(s.installed p && s.level (.tripped p)) then
    let s := s.modPump p fun x => { x with faultCause := .none }
    let s := if s.runProven p then enterStopping p .uncommanded s else enterResting p s
    settlePumps (joinRotation p s)
  else s

/-! ## Run permit (R37) -/

/-- The Load Monitor withdraws a pump's run permit (R37). -/
def withdrawPermit (p : PumpId) (s : State) : State :=
  match (s.pump p).state with
  | .starting =>
    let s := enterStopping p .aborted
      (s.modPump p fun x => { x with history := x.history.dropLast, requeue := true })
    s.append .pumpStartAborted (p.val + 1) 0
  | .running => enterStopping p .shed s
  | _ => s

/-- A grant reaches the pump at the head of the queue (R26, R57). -/
def grantPump (p : PumpId) (s : State) : State :=
  let s := withdrawEntry p s
  (s.modPump p fun x =>
    { x with state := .starting, timer := .running (Param.startProof s.prof p),
             history := x.history ++ [s.stationClock] }).modLoad
      fun x => { x with grantOrder := x.grantOrder ++ [p], evalDue := true }

/-! ## Commit (R23, R41, R48) -/

/-- A commit that changes Installed (R23). -/
def commitInstalled (old : Vector Word 256) (s : State) (p : PumpId) : State :=
  if Param.installed old p && !s.installed p then
    let s := leaveRotation p (giveUpStage p s)
    let s := s.modPump p fun x => { x with requeue := false }
    if (s.pump p).isOn then enterStopping p .removed s
    else if (s.pump p).state == .queued then queuedToIdle p s
    else s
  else if !Param.installed old p && s.installed p then joinRotation p s
  else s

/-- A commit that lowers Max Starts below a history's length (R48): the oldest entries go. -/
def commitHistory (s : State) (p : PumpId) : State :=
  s.modPump p fun x =>
    { x with history := x.history.drop (x.history.length - Param.maxStarts s.prof p) }

/-- A commit that lowers Max Running Pumps below a called stage (R41): release it. -/
def commitStage (s : State) (k : StageId) : State :=
  if usableStages s ≤ k.val then releaseIfCalled s k else s

/-- What a commit does to the Pump Sequencer (R23, R41, R48). Installed is acted on first, the pumps in
number order, which is also the order in which new ones join the Duty Rotation (R46), and then the stages
are released (DESIGN CHOICE, log 14); stages are assigned once, after that (DESIGN CHOICE, log 33). -/
def pumpsOnCommit (old : Vector Word 256) (s : State) : State :=
  let s := allPumps.foldl commitHistory s
  let s := allPumps.foldl (commitInstalled old) s
  settlePumps (stagesDown.foldl commitStage s)

/-! ## Reset release (R49) -/

/-- The Pump Record at reset release, before TRIPPED is judged (R49); the history is kept as it is, also
where the profile now in force has a lower Max Starts (R48; DESIGN CHOICE, log 30). -/
def pumpOnRelease (s : State) (p : PumpId) : State :=
  s.modPump p fun x =>
    if s.runProven p then
      { Pump.atReset with history := x.history, state := .stopping, stopCause := .uncommanded,
                          timer := .running (Param.stopProof s.prof p) }
    else { Pump.atReset with history := x.history }

/-- TRIPPED active at release faults the pump (R49). -/
def tripOnRelease (s : State) (p : PumpId) : State :=
  if s.installed p && s.level (.tripped p) then enterFaulted p .tripped s else s

/-- The Duty Rotation at release (R49): Installed pumps under AUTO in number order, then each whose Seal
Warning is set moved to the tail. -/
def rotationOnRelease (s : State) : List PumpId :=
  let members := allPumps.filter fun p => s.installed p && s.authorityOf (.pump p) == .auto
  (members.filter fun p => !s.level (.sealWarning p)) ++ members.filter fun p => s.level (.sealWarning p)

/-- The Pump Sequencer at reset release (R49), ending with the entry to float mode (R42). Pumps found
TRIPPED report it in the order of their numbers (DESIGN CHOICE, log 14). -/
def pumpsOnRelease (s : State) : State :=
  let s := allPumps.foldl pumpOnRelease s
  let s : State := { s with stages := #v[.none, .none, .none, .none] }
  let s := s.setRotation (rotationOnRelease s)
  enterFloatMode (allPumps.foldl tripOnRelease s)

end Sys2Proof.Machine
end

