-- ==== Sys2Proof/Machine/LoadMonitor.lean ====
section
/-! DEFINITION. The Load Monitor and Start Arbiter (spec/03): Supply State, load evaluation, lighting
distribution, permit checks, the grant, held starts. -/

namespace Sys2Proof.Machine

/-! ## Supply State (R50, R51) -/

/-- The Supply State that the qualified contacts give (R50). -/
def deriveSupply (s : State) : Supply :=
  if s.level .generatorOnLoad then .generator
  else if s.level .mainsHealthy then .mains
  else .dead

/-- A change of either supply contact (R50, R51, R38, R63, R68). With the Supply State DEAD the Active Budget
is 0 at once (R63; DEDUCED, log 17). -/
def supplyChanged (s : State) : State :=
  let old := s.load.supply
  let new := deriveSupply s
  if new = old then s
  else
    let s := (s.modLoad fun x => { x with supply := new, evalDue := true }).append .supplyChange 0 new.code
    if new = .dead then
      let s := s.modLoad fun x =>
        { x with settle := .stopped, budget := 0, episode := none, hold := .stopped, heldAppended := false }
      settlePumps (allPumps.foldl loseSupply s)
    else if old = .dead then
      s.modLoad fun x => { x with settle := .startOrExpire (Param.settleTime s.prof) }
    else s

/-! ## Loads (R52, R53, R64) -/

/-- A pump's starting load (R53). -/
def startingLoad (s : State) (p : PumpId) : Nat :=
  Param.ratedLoad s.prof p * Param.inrush s.prof / 10

/-- What one pump counts in the pump part (R53). -/
def pumpLoad (s : State) (p : PumpId) : Nat :=
  match (s.pump p).state with
  | .running => Param.ratedLoad s.prof p
  | .starting => startingLoad s p
  | _ => 0

/-- The pump part of the Committed Load (R53). -/
def pumpPart (s : State) : Nat := (allPumps.map (pumpLoad s)).sum

/-- A lamp group's load at a duty, rounded up (R53). -/
def loadAt (full duty : Nat) : Nat := (full * duty + 999) / 1000

/-- The lamp part of the Committed Load at the granted duties (R53). -/
def lampPart (s : State) : Nat := (allGroups.map fun g => (s.group g).grantedLoad).sum

/-- The Active Budget (R52). -/
def activeBudget (s : State) : Nat :=
  if s.load.settle.isRunning then 0
  else match s.load.supply with
    | .dead => 0
    | .mains => Param.mainsCapacity s.prof - Param.gateReserve s.prof
    | .generator => Param.generatorCapacity s.prof - Param.gateReserve s.prof

/-- The starting load of the pump at the head of the Start Queue, 0 while it is empty (R53). -/
def headStart (s : State) : Nat :=
  match s.load.queue with
  | [] => 0
  | e :: _ => startingLoad s e.pump

/-! ## Distribution of the Lighting Allowance (R65, R66) -/

/-- The group is in driver fault (4.1). -/
def LampGroup.inFault (x : LampGroup) : Bool := x.fault != .none

/-- A group's effective floor (R65). -/
def effectiveFloor (s : State) (g : GroupId) : Nat :=
  min (Param.floorDuty s.prof g) (s.group g).requested

/-- The groups in ascending Priority (R66). -/
def groupsByPriority (s : State) : List GroupId :=
  [1, 2, 3, 4, 5, 6].filterMap fun n => allGroups.find? fun g => Param.priority s.prof g == n

/-- What a group is granted where no remainder reaches it: its effective floor (R65, R66). A group whose
Full Load is 0 is granted its request all the same (R66: "always"; DESIGN CHOICE, log 31). -/
def floorGrant (s : State) (g : GroupId) : GroupId × Nat :=
  (g, if Param.fullLoad s.prof g = 0 then (s.group g).requested else effectiveFloor s g)

/-- The duty a partial grant gives with remainder `r` (R66). -/
def partialDuty (s : State) (g : GroupId) (r : Nat) : Nat :=
  let full := Param.fullLoad s.prof g
  min (s.group g).requested ((loadAt full (effectiveFloor s g) + r) * 1000 / full)

/-- The grants in Priority order from remainder `r` (R66): full requests while they fit, then one partial
grant, then the floors. -/
def shares (s : State) : List GroupId → Nat → List (GroupId × Nat)
  | [], _ => []
  | g :: rest, r =>
    let full := Param.fullLoad s.prof g
    let floor := loadAt full (effectiveFloor s g)
    let target := loadAt full (s.group g).requested
    if target ≤ floor + r then (g, (s.group g).requested) :: shares s rest (r - (target - floor))
    else (g, partialDuty s g r) :: rest.map (floorGrant s)

/-- The six grants of an allowance: 0 to a group in driver fault; to the others their floors where the
remainder is negative, otherwise shares of it (R65, R66). -/
def grants (s : State) (allowance : Nat) : List (GroupId × Nat) :=
  let part := (groupsByPriority s).filter fun g => !(s.group g).inFault
  let out := (groupsByPriority s).filter fun g => (s.group g).inFault
  let floors := (part.map fun g => loadAt (Param.fullLoad s.prof g) (effectiveFloor s g)).sum
  (if allowance < floors then part.map (floorGrant s) else shares s part (allowance - floors))
    ++ out.map fun g => (g, 0)

/-- Write one Granted Duty and Granted Load (R75). -/
def grantDuty (s : State) (x : GroupId × Nat) : State :=
  s.modGroup x.1 fun y =>
    { y with granted := x.2, grantedLoad := loadAt (Param.fullLoad s.prof x.1) x.2 }

/-- The distribution carried out by the Lighting Modulator (R65 to R67, R75). -/
def distribute (allowance : Nat) (s : State) : State := (grants s allowance).foldl grantDuty s

/-! ## The load evaluation (R54) -/

/-- Steps 1 to 5 of a load evaluation. The allowance is a signed difference whose negative values count
as 0 (R64). -/
def computeLoads (s : State) : State :=
  let budget := activeBudget s
  let pumps := pumpPart s
  let head := headStart s
  let allowance := budget - pumps - head
  let s := distribute allowance
    (s.modLoad fun x =>
      { x with budget := budget, pumpPart := pumps, headStart := head, reserve := head,
               allowance := allowance })
  s.modLoad fun x => { x with lampPart := lampPart s, committed := pumps + lampPart s }

/-- The pump in STARTING, if any. -/
def startingPump (s : State) : Option PumpId := allPumps.find? fun p => (s.pump p).state == .starting

/-- How many pumps are in STARTING or RUNNING. -/
def countOn (s : State) : Nat := allPumps.countP fun p => (s.pump p).isOn

/-- The RUNNING pump that a shed takes (R61). -/
def shedChoice (s : State) : Option PumpId :=
  let latest := s.load.grantOrder.reverse.filter fun p => (s.pump p).state == .running
  (latest.find? fun p => s.authorityOf (.pump p) != .hand).or latest.head?

/-- R60 withdraws the permit of the pump in STARTING. -/
def abortDue (s : State) : Bool :=
  (startingPump s).isSome && s.load.supply != .dead && decide (s.load.budget < s.load.committed)

/-- R61 sheds a RUNNING pump. -/
def shedDue (s : State) : Bool :=
  (startingPump s).isNone && s.load.supply != .dead && !s.load.settle.isRunning
    && decide (s.load.budget < s.load.pumpPart)

/-- R62 withdraws the permit of a pump. -/
def countDue (s : State) : Bool := decide (Param.maxRunning s.prof < countOn s)

/-- The pump whose run permit step 6 withdraws next (R60, R61, R62). -/
def permitChoice (s : State) : Option PumpId :=
  if abortDue s then startingPump s
  else if shedDue s then shedChoice s
  else if countDue s then (startingPump s).or (shedChoice s)
  else none

/-- Steps 2 to 6, repeated while a check withdraws a permit. Each withdrawal takes one pump out of
STARTING and RUNNING, so four repetitions are enough. -/
def settleLoads : Nat → State → State
  | 0, s => computeLoads s
  | n + 1, s =>
    let s := computeLoads s
    match permitChoice s with
    | none => s
    | some p => settleLoads n (withdrawPermit p s)

/-- The load condition of R57 holds for the head. -/
def loadFits (s : State) : Bool := decide (s.load.committed + headStart s ≤ s.load.budget)

/-- All conditions of R57 hold for the head. -/
def grantDue (s : State) : Bool :=
  (startingPump s).isNone && !s.load.stagger.isRunning
    && decide (countOn s < Param.maxRunning s.prof) && loadFits s && s.load.supply != .dead

/-- Step 7: grant the head of the Start Queue (R57). -/
def grantHead (s : State) : State :=
  match s.load.queue with
  | [] => s
  | e :: _ => if grantDue s then grantPump e.pump s else s

/-- The four conditions of a blocking episode (R68). -/
def blocked (s : State) : Bool :=
  !s.load.queue.isEmpty && s.load.supply != .dead && !s.load.settle.isRunning && !loadFits s

/-- Step 8: the START_HELD supervision (R68). The hold timer starts from 30 s. -/
def supervise (s : State) : State :=
  let head := s.load.queue.head?.map (·.pump)
  if !blocked s then
    s.modLoad fun x => { x with episode := none, hold := .stopped, heldAppended := false }
  else if s.load.episode = head then s
  else s.modLoad fun x => { x with episode := head, hold := .running 3000, heldAppended := false }

/-- Step 1 of a load evaluation: the Active Budget is computed, and the Pump Sequencer enters the pumps that it
lets into the queue, before any grant (R25, R52, R63; DEDUCED, log 21). -/
def openBudget (s : State) : State :=
  settlePumps (s.modLoad fun x => { x with budget := activeBudget s })

/-- The load evaluation (R54). Steps 2 to 8 find the Start Queue as step 1 leaves it (R63). -/
def loadEvaluation (s : State) : State :=
  let s := (settleLoads 4 (openBudget s)).modLoad fun x => { x with evalDue := false }
  supervise (grantHead s)

/-- The first load evaluation, made at release on an empty Start Queue and without a grant (R69). Pumps that an
Active Budget lets into the queue at once, under a Supply Settle Time of 0, are entered after it, and the next
evaluation is due (DESIGN CHOICE, log 21). -/
def firstEvaluation (s : State) : State :=
  settlePumps ((settleLoads 4 s).modLoad fun x => { x with evalDue := false })

/-! ## Timers -/

/-- The settle timer expires and a load evaluation follows (R51). -/
def settleExpired (s : State) : State :=
  if s.load.settle.isRunning then s.modLoad fun x => { x with settle := .expired, evalDue := true }
  else s

/-- The stagger timer expires and a load evaluation follows (R58). -/
def staggerExpired (s : State) : State :=
  if s.load.stagger.isRunning then s.modLoad fun x => { x with stagger := .expired, evalDue := true }
  else s

/-- The shortfall that START_HELD reports, saturated (R68). Between a commit and its load evaluation the head
starting load is that of the new profile, while the Committed Load and the Active Budget are those of the last
evaluation, and a difference below 0 is 0 (DESIGN CHOICE, log 34). -/
def shortfall (s : State) : Nat := min 65535 (s.load.committed + headStart s - s.load.budget)

/-- The hold timer expires: START_HELD once in the episode (R68). -/
def holdExpired (s : State) : State :=
  match s.load.episode with
  | some p =>
    if s.load.hold.isRunning then
      (s.modLoad fun x => { x with hold := .expired, heldAppended := true }).append
        .startHeld (p.val + 1) (shortfall s)
    else s
  | none => s

/-! ## Reset release (R69) -/

/-- The Load Monitor at reset release, before the first load evaluation (R69). -/
def loadOnRelease (s : State) : State :=
  let supply := deriveSupply s
  s.modLoad fun _ =>
    { supply := supply
      settle := if supply = .dead then .stopped else .startOrExpire (Param.settleTime s.prof)
      budget := 0, pumpPart := 0, lampPart := 0, committed := 0, headStart := 0, reserve := 0,
      allowance := 0, queue := [], grantOrder := [], stagger := .expired, hold := .stopped,
      episode := none, heldAppended := false, evalDue := true }

end Sys2Proof.Machine
end

