-- ==== Sys2Proof/Machine/Lighting.lean ====
section
/-! DEFINITION. The Lighting Modulator (spec/04): the Lighting Period, requested duties, the Stage
Selector and driver faults. The distribution stands in LoadMonitor.lean. -/

namespace Sys2Proof.Machine

/-- A change of a Requested Duty or Fault State is reported to the Load Monitor (R54, R74, R75). -/
def reportLamps (s : State) : State := s.modLoad fun x => { x with evalDue := true }

/-! ## Requested duty (R74, R76, R77) -/

/-- Demand Mode is FIXED (4.1): the unit is under a link whose mode word is FIXED. -/
def State.demandFixed (s : State) : Bool :=
  match s.authority.lighting with
  | .link _ => s.authority.demands.fixed
  | .auto | .hand => false

/-- The Requested Duty and Request Source of a group by the first row of R74 that applies. -/
def requestOf (s : State) (g : GroupId) : Nat × RequestSource :=
  if !s.profile.site then (1000, .builtin)
  else if s.demandFixed then (min 1000 s.authority.demands.duties[g], .linkFixed)
  else (min 1000 (Param.stageDuty s.prof s.lighting.stage g), .stage)

/-- Re-form one group's request; a value that differs is reported (R74). -/
def reformGroup (s : State) (g : GroupId) : State :=
  let r := requestOf s g
  let s' := s.modGroup g fun x => { x with requested := r.1, source := r.2 }
  if r.1 = (s.group g).requested then s' else reportLamps s'

/-- Re-form every request (R74). -/
def reformRequests (s : State) : State := allGroups.foldl reformGroup s

/-! ## The Stage Selector (R78 to R82) -/

/-- The Current Stage changes (R81). -/
def changeStage (n : Nat) (s : State) : State :=
  let s := s.modLighting fun x => { x with stage := n, dwell := .running (Param.stageDwell s.prof) }
  reformRequests (s.append .stageChange 0 n)

/-- The highest installed stage whose threshold is at or below a luminance (R78). -/
def highestReached (s : State) (luminance : Nat) : Nat :=
  ([8, 7, 6, 5, 4, 3, 2].find? fun n =>
    decide (n ≤ Param.installedStages s.prof) && decide (Param.threshold s.prof n ≤ luminance)).getD 1

/-- The luminance is below the Current Stage's threshold less the hysteresis (R79). -/
def belowStage (s : State) (luminance : Nat) : Bool :=
  decide ((luminance : Int) <
    (Param.threshold s.prof s.lighting.stage : Int) - Param.stageHysteresis s.prof)

/-- A luminance update (R78, R79, R80, R82). -/
def luminanceUpdate (s : State) : State :=
  let top := Param.installedStages s.prof
  let s := if top < s.lighting.stage then changeStage top s else s
  if s.channels.luminance.state = .healthy then
    let lum := s.channels.luminance.reported
    let s := s.modLighting fun x => { x with stageLum := lum }
    if s.lighting.stage < highestReached s lum then changeStage (highestReached s lum) s
    else if belowStage s lum && !s.lighting.dwell.isRunning && decide (1 < s.lighting.stage) then
      changeStage (s.lighting.stage - 1) s
    else s
  else if s.lighting.stage < top then changeStage top s
  else s

/-- The Dwell Timer expires, and the luminance update it makes is judged (R79). -/
def lightingDwellExpired (s : State) : State :=
  if s.lighting.dwell.isRunning then
    luminanceUpdate (s.modLighting fun x => { x with dwell := .expired })
  else s

/-! ## Driver faults (R83, R84, R85) -/

/-- A group enters driver fault in its Fault Mode (R83). -/
def enterDriverFault (g : GroupId) (s : State) : State :=
  let perPeriod := Param.perPeriod s.prof g
  reportLamps
    ((s.modGroup g fun x =>
      { x with fault := if perPeriod then .transient else .latched, darkHold := true }).append
        .lampFault (g.val + 1) (if perPeriod then 1 else 0))

/-- DRIVER_FAULT becomes active (R83). -/
def driverFaultActive (g : GroupId) (s : State) : State :=
  if (s.group g).inFault then s else enterDriverFault g s

/-- A group's fault ends; with its input active it re-enters driver fault at once (R83, R84, R85). -/
def endDriverFault (g : GroupId) (s : State) : State :=
  let s := reportLamps (s.modGroup g fun x => { x with fault := .none })
  if s.level (.driverFault g) then enterDriverFault g s else s

/-- An accepted Fault Clear acts on one group (R84). -/
def clearGroup (s : State) (g : GroupId) : State :=
  if (s.group g).fault = .latched ∧ !s.level (.driverFault g) then endDriverFault g s else s

/-- An accepted Fault Clear for LIGHTING (R84). -/
def clearLighting (s : State) : State := allGroups.foldl clearGroup s

/-! ## The boundary (R71, R73, R83) -/

/-- One group at a boundary (R73, R83). -/
def groupBoundary (s : State) (g : GroupId) : State :=
  let s := s.modGroup g fun x => { x with offset := Param.phaseOffset s.prof g }
  if (s.group g).inFault then
    let s := s.modGroup g fun x => { x with applied := 0 }
    if (s.group g).fault = .transient ∧ !s.level (.driverFault g) then endDriverFault g s else s
  else s.modGroup g fun x => { x with applied := x.granted, darkHold := false }

/-- A Lighting Period boundary (R71, R73): the counter stands at 0 and Period In Use is set first. -/
def lightingBoundary (s : State) : State :=
  allGroups.foldl groupBoundary
    (s.modLighting fun x => { x with counter := 0, periodInUse := Param.lightingPeriod s.prof })

/-! ## Commit and reset release -/

/-- What a commit does to the Lighting Modulator (R74, R82). -/
def lightingOnCommit (s : State) : State := reformRequests (luminanceUpdate s)

/-- A group whose DRIVER_FAULT is active at release (R86). -/
def faultOnRelease (s : State) (g : GroupId) : State :=
  if s.level (.driverFault g) then enterDriverFault g s else s

/-- One Lamp Group record at reset release, before its fault is judged (R86). -/
def groupOnRelease (s : State) (g : GroupId) : State :=
  s.modGroup g fun _ =>
    { LampGroup.atReset with
      requested := (requestOf s g).1, source := (requestOf s g).2, granted := 0,
      offset := Param.phaseOffset s.prof g }

/-- The Lighting Modulator at reset release (R86). Groups whose driver fault stands report it in the order of
their numbers (DESIGN CHOICE, log 14). -/
def lightingOnRelease (s : State) : State :=
  let s := s.modLighting fun x =>
    { x with counter := 0, periodInUse := Param.lightingPeriod s.prof,
             stage := Param.installedStages s.prof, dwell := .running (Param.stageDwell s.prof),
             stageLum := 0 }
  allGroups.foldl faultOnRelease (allGroups.foldl groupOnRelease s)

end Sys2Proof.Machine
end

