-- ==== Sys2Proof/Machine/Measurement.lean ====
section
/-! DEFINITION. The Measurement Unit (spec/01): pulse capture, sample processing, channel health and the
Sump Summary. What other blocks do with a new value is in Flow.lean. -/

namespace Sys2Proof.Machine

/-- The channel is HEALTHY (1.2.5). -/
def State.healthy (s : State) (c : ChannelId) : Bool := (s.channel c).state == .healthy

/-! ## From width to sample -/

/-- A width within Fault Low Width and Fault High Width, either bound included, is valid (R5). -/
def widthValid (v : Vector Word 256) (c : ChannelId) (w : Nat) : Bool :=
  decide (Param.faultLow v c ≤ w) && decide (w ≤ Param.faultHigh v c)

/-- A valid width clamped into the calibration span (R5). -/
def clampWidth (v : Vector Word 256) (c : ChannelId) (w : Nat) : Nat :=
  min (max w (Param.zeroWidth v c)) (Param.zeroWidth v c + Param.spanWidth v c)

/-- The Scaled Sample of a valid width (R6). -/
def scaleWidth (v : Vector Word 256) (c : ChannelId) (w : Nat) : Nat :=
  (clampWidth v c w - Param.zeroWidth v c) * Param.range v c / Param.spanWidth v c + Param.mount v c

/-- The Reported Value of a Filter Value: (F + 8) / 16, rounded down (R8). -/
def reportedOf (filter : Nat) : Nat := (filter + 8) / 16

/-- The filter's move toward a Scaled Sample: the signed difference in sixteenths divided by 2^k,
truncated toward zero, is added (R8). -/
def filterStep (shift filter scaled : Nat) : Nat :=
  ((filter : Int) + Int.tdiv ((scaled * 16 : Nat) - (filter : Int)) (2 ^ shift : Nat)).toNat

/-- Load the filter with a sample (R7, R9, R14). -/
def Channel.reload (scaled : Nat) (x : Channel) : Channel :=
  { x with filter := scaled * 16, reported := scaled }

/-- Filter a sample that is not suspect (R7, R8). -/
def Channel.filtered (shift scaled : Nat) (x : Channel) : Channel :=
  { x with
    filter := filterStep shift x.filter scaled
    reported := reportedOf (filterStep shift x.filter scaled) }

/-- The absolute difference of two levels. -/
def absDiff (a b : Nat) : Nat := (a - b) + (b - a)

/-- Handle a suspect sample by the table of R7. -/
def Channel.suspect (scaled : Nat) (x : Channel) : Channel :=
  let dir : SuspectDirection := if x.reported < scaled then .up else .down
  if x.suspectCount = 0 ∨ x.suspectDir ≠ dir then { x with suspectCount := 1, suspectDir := dir }
  else if x.suspectCount = 1 then { x with suspectCount := 2 }
  else { x.reload scaled with suspectCount := 0, suspectDir := .none }

/-- The step check and the filter of a valid sample of a HEALTHY channel whose Reload Pending is clear
(R7). With a Step Limit of 0 the sample goes straight to the filter, and a suspect run that stands from an
earlier profile stays as it is (DESIGN CHOICE, log 29). -/
def Channel.checked (limit shift scaled : Nat) (x : Channel) : Channel :=
  if limit = 0 then x.filtered shift scaled
  else if limit < absDiff scaled x.reported then x.suspect scaled
  else ({ x with suspectCount := 0, suspectDir := .none } : Channel).filtered shift scaled

/-! ## Health -/

/-- Entry to FAILED (R13): the record's part. -/
def Channel.fail (cause : FailCause) (x : Channel) : Channel :=
  { x with state := .failed, failCause := cause, sampleTimer := .stopped, invalidCount := 0,
           recoveryCount := 0, suspectCount := 0, suspectDir := .none }

/-- A channel enters FAILED and CHANNEL_FAILED is appended (R13). -/
def failChannel (c : ChannelId) (cause : FailCause) (s : State) : State :=
  (s.modChannel c (·.fail cause)).append .channelFailed (channelNumber c) cause.code

/-- A valid sample of a WAITING channel (R9, R11). -/
def Channel.firstValid (timeout scaled : Nat) (x : Channel) : Channel :=
  { x.reload scaled with scaled := scaled, invalidCount := 0, reloadPending := false,
                         sampleTimer := .running timeout, state := .healthy }

/-- A valid sample of a HEALTHY channel (R9, R12). A reload by Reload Pending leaves a suspect run that
stands as it is (DESIGN CHOICE, log 29). -/
def Channel.healthyValid (timeout limit shift scaled : Nat) (x : Channel) : Channel :=
  let x : Channel := { x with scaled := scaled, invalidCount := 0, sampleTimer := .running timeout }
  if x.reloadPending then { x.reload scaled with reloadPending := false }
  else x.checked limit shift scaled

/-- The third valid sample of a recovery run (R14). -/
def Channel.recover (timeout scaled : Nat) (x : Channel) : Channel :=
  { x.reload scaled with state := .healthy, scaled := scaled, recoveryCount := 0, invalidCount := 0,
                         reloadPending := false, sampleTimer := .running timeout }

/-- A completed valid sample acts on its channel (R9). -/
def validSample (c : ChannelId) (scaled : Nat) (s : State) : State :=
  let x := s.channel c
  let timeout := Param.sampleTimeout s.prof c
  match x.state with
  | .uncalibrated => s
  | .waiting => s.modChannel c (·.firstValid timeout scaled)
  | .healthy =>
    s.modChannel c (·.healthyValid timeout (Param.stepLimit s.prof c) (Param.filterShift s.prof c) scaled)
  | .failed =>
    if x.recoveryCount < 2 then
      s.modChannel c fun x => { x with scaled := scaled, recoveryCount := x.recoveryCount + 1 }
    else (s.modChannel c (·.recover timeout scaled)).append .channelRestored (channelNumber c) scaled

/-- A completed invalid sample acts on its channel (R9). -/
def invalidSample (c : ChannelId) (s : State) : State :=
  let x := s.channel c
  match x.state with
  | .uncalibrated => s
  | .failed => s.modChannel c fun x => { x with recoveryCount := 0 }
  | .waiting | .healthy =>
    if x.invalidCount < 2 then s.modChannel c fun x => { x with invalidCount := x.invalidCount + 1 }
    else failChannel c .invalidSamples s

/-- A completed width is judged and acts on its channel (R5, R9); under UNCALIBRATED it is not judged
(R10). -/
def processWidth (c : ChannelId) (w : Nat) (s : State) : State :=
  if widthValid s.prof c w then validSample c (scaleWidth s.prof c w) s else invalidSample c s

/-- The width of the pulse that a falling edge would complete now, modulo 65536 (R3). -/
def State.pulseWidth (s : State) (c : ChannelId) : Word := s.timebase - (s.channel c).beginTime

/-- A rising edge latches the timebase value as Begin Time, in either Capture Phase (R3). -/
def captureRise (c : ChannelId) (s : State) : State :=
  s.modChannel c fun x => { x with beginTime := s.timebase, phase := .awaitingFall }

/-- A falling edge in AWAITING_FALL completes the pulse (R3). -/
def captureFall (c : ChannelId) (s : State) : State :=
  s.modChannel c fun x => { x with lastWidth := s.pulseWidth c, phase := .awaitingRise }

/-! ## Calibration changes (R10, R16) -/

/-- The calibration words of a channel differ between two profiles (R16). -/
def calibrationChanged (old new : Vector Word 256) (c : ChannelId) : Bool :=
  Param.zeroWidth old c != Param.zeroWidth new c || Param.spanWidth old c != Param.spanWidth new c
    || Param.range old c != Param.range new c || Param.mount old c != Param.mount new c

/-- Clamp a channel's values into the calibration of a profile (R16). -/
def Channel.clampTo (mount range : Nat) (x : Channel) : Channel :=
  let f := min (max x.filter (16 * mount)) (16 * (mount + range))
  { x with filter := f, reported := reportedOf f }

/-- What a commit does to one channel (R10, R16). -/
def Channel.onCommit (old new : Vector Word 256) (c : ChannelId) (x : Channel) : Channel :=
  let x := if calibrationChanged old new c then
      { x.clampTo (Param.mount new c) (Param.range new c) with reloadPending := true }
    else x
  if x.state = .uncalibrated then
    { x.clampTo (Param.mount new c) (Param.range new c) with
      state := .waiting, invalidCount := 0, recoveryCount := 0,
      sampleTimer := .running (Param.sampleTimeout new c) }
  else x

/-- The Channel Record at reset release under a profile (R17). -/
def Channel.onRelease (v : Vector Word 256) (site : Bool) (c : ChannelId) : Channel :=
  { Channel.atReset with
    state := if site then .waiting else .uncalibrated
    scaled := Param.mount v c
    filter := 16 * Param.mount v c
    reported := Param.mount v c
    sampleTimer := if site then .running (Param.sampleTimeout v c) else .stopped }

/-! ## Sump Summary -/

/-- The source that a Sump Level update selects (R18). -/
def selectSource (a b : Bool) : SumpSource :=
  if a then (if b then .both else .a) else (if b then .b else .floats)

/-- The Sump Level that a Sump Level update selects (R18). -/
def selectLevel (s : State) : Nat :=
  match selectSource (s.healthy .sumpA) (s.healthy .sumpB) with
  | .a => s.channels.sumpA.reported
  | .b => s.channels.sumpB.reported
  | .both => max s.channels.sumpA.reported s.channels.sumpB.reported
  | .floats => 0

/-- The two sump channels are HEALTHY and differ by more than Agreement Band (R19). -/
def disagrees (s : State) : Bool :=
  s.healthy .sumpA && s.healthy .sumpB
    && decide (Param.agreementBand s.prof < absDiff s.channels.sumpA.reported s.channels.sumpB.reported)

/-- The disagreement episode at a Sump Level update (R19). -/
def judgeDisagreement (s : State) : State :=
  let d := disagrees s
  let a := s.channels.sumpA.reported
  let b := s.channels.sumpB.reported
  let s' := s.modSump fun x => { x with disagreement := d }
  if d && !s.sump.disagreement then s'.append .sumpDisagree (if b < a then 1 else 2) (absDiff a b) else s'

/-- A rate window starts from the present Sump Level (R20). -/
def Sump.startWindow (window : Nat) (x : Sump) : Sump :=
  { x with windowStart := x.level, windowTimer := .running window, windowLen := window }

/-- The rate window at a Sump Level update that found the source `old` before it (R20). -/
def Sump.onUpdate (old : SumpSource) (window : Nat) (x : Sump) : Sump :=
  if !x.valid then { x with rate := 0, windowTimer := .stopped, windowLen := 0 }
  else if x.source ≠ old then ({ x with rate := 0 } : Sump).startWindow window
  else if x.windowTimer.isRunning then x
  else x.startWindow window

/-- FLOAT_MODE at a change of Sump Source from or to FLOATS (R18). -/
def appendFloatMode (old new : SumpSource) (s : State) : State :=
  if old ≠ .floats ∧ new = .floats then s.append .floatMode 0 1
  else if old = .floats ∧ new ≠ .floats then s.append .floatMode 0 0
  else s

/-- The Measurement Unit's own part of a Sump Level update: selection (R18), disagreement (R19) and rate
window (R20). -/
def updateSump (s : State) : State :=
  let old := s.sump.source
  let new := selectSource (s.healthy .sumpA) (s.healthy .sumpB)
  let level := selectLevel s
  let s := s.modSump fun x => { x with level := level, source := new, valid := new != .floats }
  let s := appendFloatMode old new s
  let s := judgeDisagreement s
  s.modSump (·.onUpdate old (Param.rateWindow s.prof))

/-- The Rate of Rise over a window (R20, steps 1 to 4). -/
def rateOfRise (level start : Nat) (window : Nat) : Int :=
  max (-9999) (min 9999 (Int.tdiv (((level : Int) - start) * 60) window))

/-- The end of the rate window: the rate is computed with the window's own divisor and a new window
starts at once (R20). -/
def endWindow (s : State) : State :=
  s.modSump fun x =>
    ({ x with rate := rateOfRise x.level x.windowStart x.windowLen } : Sump).startWindow
      (Param.rateWindow s.prof)

end Sys2Proof.Machine
end

