-- ==== Sys2Proof/Machine/Penstock.lean ====
section
/-! DEFINITION. The Penstock Controller (spec/07): the penstock evaluation, the target in force, its
commands, link demands and the backflow override. The Active Stage Set is `State.gravitySet`. -/

namespace Sys2Proof.Machine

/-! ## Target and commands (R121) -/

/-- The Stop Count of a position target (R121). -/
def stopCountOf (s : State) (p : Nat) : Nat := p * Param.travelCounts s.prof / 1000

/-- The command that follows from the target in force (R121). -/
def targetCommand (s : State) : DriveCommand :=
  match s.penstock.target with
  | .closed => .down none
  | .open => .up none
  | .position =>
    let n := stopCountOf s s.penstock.targetPos
    if s.gates.stem.count < n then .up (some n) else .down (some n)
  | .stopped => .stop

/-- Command the PENSTOCK drive toward the target in force (R121). -/
def commandTarget (s : State) : State := (commandDrive .penstock (targetCommand s) s).1

/-- Set the Target Kind and command it (R121). -/
def setTarget (t : TargetKind) (s : State) : State :=
  commandTarget (s.modPenstock fun x => { x with target := t })

/-- The target that the AUTO Decision makes (R120). -/
def decisionTarget (s : State) : TargetKind := if s.penstock.decideOpen then .open else .closed

/-- The Action word of the demand is written by the controller (R122, R124). -/
def writeActionClosed (s : State) : State :=
  match s.authority.penstock with
  | .link _ => s.modDemands fun x => { x with action := .closed }
  | .auto | .hand => s

/-! ## The penstock evaluation (R117, R118, R119) -/

/-- RIVER is HEALTHY and the Sump Level VALID (R117). -/
def waterUsable (s : State) : Bool := s.channels.river.state == .healthy && s.sump.valid

/-- Backflow (R117). -/
def backflowNow (s : State) : Bool :=
  waterUsable s && decide (s.sump.level + Param.closeMargin s.prof ≤ s.channels.river.reported)

/-- Open Condition (R117): a signed difference. -/
def openConditionNow (s : State) : Bool :=
  waterUsable s && decide ((s.channels.river.reported : Int) ≤ (s.sump.level : Int) - Param.openMargin s.prof)

/-- Head (R117). -/
def headNow (s : State) : Int :=
  if waterUsable s then (s.channels.river.reported : Int) - s.sump.level else 0

/-- The AUTO Decision, the first row of R118 that applies; `expired` says that the Open Delay Timer
expired at this evaluation. -/
def decideOpenNow (expired : Bool) (s : State) : Bool :=
  if !s.profile.site || !waterUsable s || backflowNow s then false
  else if expired && openConditionNow s then true
  else s.penstock.decideOpen

/-- The Open Delay Timer after the decision (R119). -/
def openDelayNext (delay : Nat) (x : PenstockControl) : Timer :=
  if x.decideOpen || !x.openCond then .stopped
  else if x.openDelay.isRunning then x.openDelay
  else .running delay

/-- The override at the onset of Backflow (R124). -/
def overrideTarget (k : Link) (s : State) : State :=
  let s := setTarget .closed (writeActionClosed s)
  s.append .overridden 5 (linkIndex k)

/-- The target in force at an evaluation that found Backflow `was` before it (R120, R124). -/
def targetAtEvaluation (was : Bool) (s : State) : State :=
  match s.authority.penstock with
  | .auto => if s.penstock.target = decisionTarget s then s else setTarget (decisionTarget s) s
  | .link k =>
    if s.penstock.backflow && !was && s.penstock.target != .closed then overrideTarget k s else s
  | .hand => s

/-- A penstock evaluation (R117 to R120, R124). -/
def penstockEvaluation (expired : Bool) (s : State) : State :=
  let was := s.penstock.backflow
  let s := s.modPenstock fun x =>
    { x with decideOpen := decideOpenNow expired s, backflow := backflowNow s,
             openCond := openConditionNow s, head := headNow s }
  targetAtEvaluation was
    (s.modPenstock fun x => { x with openDelay := openDelayNext (Param.openDelay s.prof) x })

/-- The Open Delay Timer expires (R119). -/
def openDelayExpired (s : State) : State :=
  if s.penstock.openDelay.isRunning then
    penstockEvaluation true (s.modPenstock fun x => { x with openDelay := .stopped })
  else s

/-! ## After an event of the drive (R122) -/

/-- What the controller does when an event of the drive has turned `before` into the present state
(R122). -/
def penstockFollow (before s : State) : State :=
  if before.gates.stem.referenced && !s.gates.stem.referenced && s.penstock.target == .position then
    setTarget .closed (writeActionClosed s)
  else if s.penstock.target == .closed && s.gates.penstock.state == .stopped
      && before.positionState == .seated && s.positionState != .seated then commandTarget s
  else s

/-- An accepted Fault Clear for PENSTOCK (R106, R122). -/
def clearPenstock (s : State) : State :=
  let s' := clearDrive .penstock s
  if s.gates.penstock.state == .faulted && s'.gates.penstock.state == .stopped then commandTarget s' else s'

/-! ## Authority and demands (R120, R123) -/

/-- The PENSTOCK authority has changed (R120). -/
def penstockAuthorityChanged (s : State) : State :=
  match s.authority.penstock with
  | .auto => setTarget (decisionTarget s) s
  | .link _ => s
  | .hand => setTarget .stopped s

/-- Why a demand for a position is refused (R123), NOT_REFERENCED before PROTECTIVE. -/
def positionRefusal (s : State) (p : Nat) : Option Reason :=
  if !s.gates.stem.referenced then some .notReferenced
  else if s.penstock.backflow && decide (s.position < p) then some .protective
  else none

/-- A position target is accepted and commanded (R121, R123). -/
def acceptPosition (p : Nat) (s : State) : State :=
  setTarget .position (s.modPenstock fun x => { x with targetPos := p })

/-! ## Reset release (R127) -/

/-- The Penstock Controller at reset release (R127). -/
def penstockOnRelease (s : State) : State :=
  let s := s.modPenstock fun _ =>
    { decideOpen := false, backflow := false, openCond := false, openDelay := .stopped, head := 0,
      target := .closed, targetPos := 0 }
  setTarget (if s.authority.penstock = .hand then .stopped else .closed) s

end Sys2Proof.Machine
end

