-- ==== Sys2Proof/Machine/Authority.lean ====
section
/-! DEFINITION. The Authority Table (spec/09): changes of authority, keys and buttons, TAKE and RELEASE,
demand words and Fault Clear words as the Image Port applies them. -/

namespace Sys2Proof.Machine

/-! ## Changing authority (R148, R155) -/

/-- Write the authority word of a unit. -/
def setAuthority (u : UnitId) (a : Authority) (s : State) : State :=
  s.modAuthority fun x =>
    match u with
    | .pump p => { x with pumps := x.pumps.set p a }
    | .penstock => { x with penstock := a }
    | .road => { x with road := a }
    | .lighting => { x with lighting := a }

/-- Write a unit's Demand Record to its neutral value (R155). -/
def neutralDemand (u : UnitId) (s : State) : State :=
  s.modDemands fun x =>
    match u with
    | .pump p => { x with pumpRun := x.pumpRun.set p false }
    | .penstock => { x with action := .hold, position := 0 }
    | .road => { x with road := .none }
    | .lighting => { x with fixed := false, duties := #v[1000, 1000, 1000, 1000, 1000, 1000] }

/-- A change of authority is delivered to the unit's block (R148 step 4). -/
def deliverAuthority (u : UnitId) (old : Authority) (s : State) : State :=
  match u with
  | .pump p => pumpAuthorityChanged p old s
  | .penstock => penstockAuthorityChanged s
  | .road => judgeTrigger s
  | .lighting => reformRequests s

/-- Change a unit's authority as one event (R148); an authority that stays as it was is no change. -/
def changeAuthority (u : UnitId) (a : Authority) (s : State) : State :=
  let old := s.authorityOf u
  if old = a then s
  else deliverAuthority u old
    ((neutralDemand u (setAuthority u a s)).append .authorityChange u.index a.code)

/-- A link's unit returns to AUTO (R151). -/
def returnUnit (k : Link) (s : State) (u : UnitId) : State :=
  if s.authorityOf u = .link k then changeAuthority u .auto s else s

/-- Every unit that a link holds returns to AUTO, in index order (R151). -/
def returnUnits (k : Link) (s : State) : State := allUnits.foldl (returnUnit k) s

/-! ## Keys and buttons (R146, R147, R157, R158) -/

/-- A key's contact has changed since `before` (R147): local takes the unit to HAND, the return gives
AUTO; a pump key moved between HAND and OFF changes only the pump's call (R36). -/
def keyChanged (u : UnitId) (before s : State) : State :=
  if s.keyLocal u then
    if s.authorityOf u = .hand then
      match u with
      | .pump p => if before.keyOff p = s.keyOff p then s else pumpKeyMoved p s
      | .penstock | .road | .lighting => s
    else changeAuthority u .hand s
  else if s.authorityOf u = .hand then changeAuthority u .auto s
  else s

/-- Count one accepted clear of a unit (R156). -/
def countClear (u : UnitId) (s : State) : State :=
  s.modAuthority fun x =>
    match u with
    | .pump p => { x with pumpClears := x.pumpClears.set p (x.pumpClears[p] + 1) }
    | .penstock => { x with penstockClears := x.penstockClears + 1 }
    | .road => { x with roadClears := x.roadClears + 1 }
    | .lighting => { x with lightingClears := x.lightingClears + 1 }

/-- The clears accepted for a unit (R156). -/
def State.clearCount (s : State) : UnitId → Word
  | .pump p => s.authority.pumpClears[p]
  | .penstock => s.authority.penstockClears
  | .road => s.authority.roadClears
  | .lighting => s.authority.lightingClears

/-- An accepted clear is counted and delivered to the unit's blocks (R156). -/
def acceptClear (u : UnitId) (s : State) : State :=
  let s := countClear u s
  match u with
  | .pump p => clearPump p s
  | .penstock => clearPenstock s
  | .road => clearRoad s
  | .lighting => clearLighting s

/-- FAULT RESET on one unit: a clear if it is under HAND or AUTO (R157). -/
def panelClear (s : State) (u : UnitId) : State :=
  match s.authorityOf u with
  | .auto | .hand => acceptClear u s
  | .link _ => s

/-- FAULT RESET becomes active (R157). -/
def faultReset (s : State) : State := allUnits.foldl panelClear s

/-- A panel button has changed (R158). -/
def buttonChanged (b : PanelButton) (s : State) : State :=
  let active := s.level (.button b)
  match b with
  | .close => if active && s.authority.road == .hand then panelClose s else s
  | .reopen => if active && s.authority.road == .hand then panelReopen s else s
  | .faultReset => if active then faultReset s else s
  | .lampTest => lampTestChanged s

/-! ## TAKE, RELEASE and CLEAR (R149, R150, R156) -/

/-- The link is ACTIVE. -/
def State.linkActive (s : State) (k : Link) : Bool := (s.link k).state == .active

/-- The link holds the unit. -/
def State.holds (s : State) (k : Link) (u : UnitId) : Bool :=
  s.linkActive k && s.authorityOf u == .link k

/-- Why a TAKE is refused, the first row of R149 that matches. -/
def takeRefusal (s : State) (k : Link) (u : UnitId) : Option Reason :=
  if !s.linkActive k then some .notAuthority
  else if !s.profile.site then some .builtinProfile
  else match s.authorityOf u with
    | .hand => some .panelHasControl
    | .link j => if j = k then none else some .heldByOther
    | .auto => none

/-- A TAKE is applied (R149). -/
def applyTake (k : Link) (u : UnitId) (s : State) : State :=
  match takeRefusal s k u with
  | some r => s.refuse k (authorityAddr u) r 1
  | none => changeAuthority u (.link k) s

/-- A RELEASE is applied (R150). -/
def applyRelease (k : Link) (u : UnitId) (s : State) : State :=
  if s.holds k u then changeAuthority u .auto s
  else s.refuse k (authorityAddr u) .notAuthority 2

/-- Why a CLEAR is refused, the first row of R156 that matches. -/
def clearRefusal (s : State) (k : Link) (u : UnitId) : Option Reason :=
  if !s.linkActive k then some .notAuthority
  else match s.authorityOf u with
    | .hand => some .panelHasControl
    | .link j => if j = k then none else some .notAuthority
    | .auto => none

/-- A CLEAR is applied (R156). -/
def applyClear (k : Link) (u : UnitId) (s : State) : State :=
  match clearRefusal s k u with
  | some r => s.refuse k (faultClearAddr u) r 1
  | none => acceptClear u s

/-! ## Demand words (R153) -/

/-- Judge a demand word at authority level, then by its unit: refused with the first reason, or acted on
(R153). -/
def judgeDemand (k : Link) (u : UnitId) (addr : Addr) (value : Word) (unitReason : Option Reason)
    (act : State → State) (s : State) : State :=
  if !s.holds k u then s.refuse k addr .notAuthority value
  else match unitReason with
    | some r => s.refuse k addr r value
    | none => act s

/-- A pump demand word is applied (R25, R153). -/
def applyPumpDemand (k : Link) (p : PumpId) (run : Bool) (s : State) : State :=
  judgeDemand k (.pump p) (pumpDemandAddr p) (if run then 1 else 0) none
    (fun s => pumpDemandStored p (s.modDemands fun x => { x with pumpRun := x.pumpRun.set p run })) s

/-- Store a penstock Action word. -/
def storeAction (a : PenstockAction) (s : State) : State := s.modDemands fun x => { x with action := a }

/-- Why the Penstock Controller refuses an Action word (R123). -/
def actionRefusal (s : State) : PenstockAction → Option Reason
  | .hold | .closed => none
  | .open => if s.penstock.backflow then some .protective else none
  | .position => positionRefusal s s.authority.demands.position

/-- An accepted Action word acts on the target in force (R121, R123). -/
def actOnAction (a : PenstockAction) (s : State) : State :=
  match a with
  | .hold => s
  | .open => setTarget .open s
  | .closed => setTarget .closed s
  | .position => acceptPosition s.authority.demands.position s

/-- A penstock Action word is applied (R123, R153). -/
def applyAction (k : Link) (a : PenstockAction) (s : State) : State :=
  judgeDemand k .penstock 0x14C (BitVec.ofNat 16 a.code) (actionRefusal s a)
    (fun s => actOnAction a (storeAction a s)) s

/-- A penstock Position word is applied: a new POSITION demand while the Action is POSITION, held
otherwise (R123, R153). -/
def applyPosition (k : Link) (value : Word) (s : State) : State :=
  let p := clamp1000 value
  let live := s.authority.demands.action == .position
  judgeDemand k .penstock 0x14D value (if live then positionRefusal s p else none)
    (fun s =>
      let s := s.modDemands fun x => { x with position := p }
      if live then acceptPosition p s else s) s

/-- Why the Closure Sequencer refuses a road word (R139, R141). -/
def roadRefusal (s : State) : RoadAction → Option Reason
  | .none => none
  | .close => if s.closure.state = .halted then some .state else none
  | .reopen => reopenRefusal s
  | .resume => if s.closure.state = .halted then none else some .state

/-- An accepted road word acts on the Closure Sequencer (R137, R139, R141). -/
def actOnRoad (a : RoadAction) (s : State) : State :=
  match a with
  | .none => s
  | .close => closeRoad s
  | .reopen => reopenRoad s
  | .resume => resumeRoad s

/-- A road demand word is applied (R141, R153). -/
def applyRoad (k : Link) (a : RoadAction) (s : State) : State :=
  judgeDemand k .road 0x14E (BitVec.ofNat 16 a.code) (roadRefusal s a)
    (fun s => actOnRoad a (s.modDemands fun x => { x with road := a })) s

/-- A lighting mode word is applied (R76, R153). -/
def applyMode (k : Link) (fixed : Bool) (s : State) : State :=
  judgeDemand k .lighting 0x150 (if fixed then 1 else 0) none
    (fun s => reformRequests (s.modDemands fun x => { x with fixed := fixed })) s

/-- A lighting duty word is applied (R76, R153). -/
def applyDuty (k : Link) (g : GroupId) (value : Word) (s : State) : State :=
  judgeDemand k .lighting (dutyAddr g) value none
    (fun s =>
      let s := s.modDemands fun x => { x with duties := x.duties.set g (clamp1000 value) }
      if s.demandFixed then reformGroup s g else s) s

/-! ## Commit and reset release (R151, R159) -/

/-- A commit that changes the source of the Active Profile returns every unit held by a link (R151). -/
def authorityOnCommit (sourceChanged : Bool) (s : State) : State :=
  let back (s : State) (u : UnitId) : State :=
    match s.authorityOf u with
    | .link _ => changeAuthority u .auto s
    | .auto | .hand => s
  if sourceChanged then allUnits.foldl back s else s

/-- The authority that a unit's key gives at release (R159). -/
def authorityAtRelease (s : State) (u : UnitId) : Authority := if s.keyLocal u then .hand else .auto

/-- The Authority Table at reset release (R159). -/
def authorityOnRelease (s : State) : State :=
  s.modAuthority fun _ =>
    { pumps := #v[authorityAtRelease s (.pump 0), authorityAtRelease s (.pump 1),
                  authorityAtRelease s (.pump 2), authorityAtRelease s (.pump 3)]
      penstock := authorityAtRelease s .penstock
      road := authorityAtRelease s .road
      lighting := .auto
      demands := { pumpRun := #v[false, false, false, false], action := .hold, position := 0,
                   road := .none, fixed := false,
                   duties := #v[1000, 1000, 1000, 1000, 1000, 1000] }
      pumpClears := #v[0, 0, 0, 0], penstockClears := 0, roadClears := 0, lightingClears := 0 }

end Sys2Proof.Machine
end

