-- ==== Sys2Proof/Machine/Image.lean ====
section
/-! DEFINITION. The Plant Image (spec/12): the records, what each word reads as, and which addresses are
read-only or unmapped. -/

namespace Sys2Proof.Machine

/-! ## Records (12.1) -/

/-- The records whose extent is one row each: base, words and how many of them follow one another. -/
def recordRows : List (Nat × Nat × Nat) :=
  [(0x000, 8, 1), (0x008, 8, 1), (0x010, 8, 5), (0x040, 8, 4), (0x060, 8, 1), (0x068, 16, 1),
    (0x078, 8, 1), (0x080, 8, 6), (0x0B0, 6, 1), (0x0C0, 8, 8), (0x100, 8, 3), (0x118, 8, 1),
    (0x120, 12, 1), (0x140, 8, 1), (0x148, 4, 1), (0x14C, 2, 1), (0x14E, 1, 1), (0x150, 7, 1),
    (0x158, 7, 1), (0x180, 8, 2), (0x190, 6, 1), (0x196, 1, 1), (0x1A0, 4, 1), (0x200, 256, 1),
    (0x300, 256, 1)]

/-- The record that contains an address: its base and its words; none for an unmapped address (12.1). -/
def recordAt (a : Nat) : Option (Nat × Nat) :=
  recordRows.findSome? fun r =>
    if r.1 ≤ a ∧ a < r.1 + r.2.1 * r.2.2 then some (r.1 + (a - r.1) / r.2.1 * r.2.1, r.2.1) else none

/-- The address is mapped (12.1). -/
def isMapped (a : Nat) : Bool := (recordAt a).isSome

/-- The address takes writes (12.1). -/
def isWritable (a : Nat) : Bool :=
  isMapped a && (decide (0x140 ≤ a ∧ a ≤ 0x15E ∧ a ≠ 0x147) || a == 0x196 || a == 0x1A0
    || decide (0x300 ≤ a))

/-! ## How values are shown -/

/-- Two fields in one word, the first in the high byte. -/
def pair (hi lo : Nat) : Nat := hi * 256 + lo

/-- A quantity of more than 16 bits, saturated. -/
def saturated (n : Nat) : Nat := min 65535 n

/-- A timer in a one-word field of its own unit. -/
def Timer.show : Timer → Nat
  | .stopped => 0xFFFF
  | .expired => 0
  | .running n => n

/-- A timer in a one-word field in units of 100 ms, rounded up. -/
def Timer.showTenths : Timer → Nat
  | .stopped => 0xFFFF
  | .expired => 0
  | .running n => (n + 9) / 10

/-- A pump's Timer field: 0 where no timer runs (R24). -/
def Timer.showPump : Timer → Nat
  | .running n => (n + 9) / 10
  | .stopped | .expired => 0

/-- The Stall Timer in its byte (12.2). -/
def Timer.showStall : Timer → Nat
  | .stopped => 255
  | .expired => 0
  | .running n => min 254 ((n + 9) / 10)

/-- A held timer shows its full time (8.1). -/
def Timer.showHeld (held : Bool) (full : Nat) (t : Timer) : Nat := if held then full else t.show

/-- A signed quantity in two's complement. -/
def signed (i : Int) : Nat := (BitVec.ofInt 16 i).toNat

/-- The high word of a two-word value. -/
def highWord (n : Nat) : Nat := n / 65536 % 65536

/-- A pump number in a list of pumps, 0 past its end. -/
def pumpNumberAt (l : List PumpId) (i : Nat) : Nat :=
  match l[i]? with
  | some p => p.val + 1
  | none => 0

/-- Four pump numbers in 4-bit fields, the first in bits 15..12. -/
def pumpNibbles (l : List PumpId) : Nat :=
  pumpNumberAt l 0 * 4096 + pumpNumberAt l 1 * 256 + pumpNumberAt l 2 * 16 + pumpNumberAt l 3

/-- A pump number, 0 for none. -/
def pumpNumber : Option PumpId → Nat
  | none => 0
  | some p => p.val + 1

def LimitPosition.code : LimitPosition → Nat
  | .mid => 0
  | .up => 1
  | .down => 2

def PositionState.code : PositionState → Nat
  | .seated => 0
  | .openLimit => 1
  | .intermediate => 2
  | .unreferenced => 3

/-! ## Status records (12.2) -/

def stationWord (s : State) : Nat → Nat
  | 0 => 0x2460
  | 1 => highWord s.stationClock.toNat
  | 2 => s.stationClock.toNat
  | 3 => bit s.profile.site 0
  | 4 => s.signals.position
  | 5 => s.signals.periodInUse
  | 6 => bit s.signals.lampTest 2 + bit s.signals.redProven1 1 + bit s.signals.redProven2 0
  | _ => 0

def sumpWord (s : State) : Nat → Nat
  | 0 => s.sump.level
  | 1 => bit s.sump.valid 0
  | 2 => s.sump.source.code
  | 3 => signed s.sump.rate
  | 4 => s.sump.windowStart
  | 5 => s.sump.windowTimer.show
  | 6 => bit s.sump.disagreement 0
  | 7 => bit (s.level (.float .dry)) 4 + bit (s.level (.float .stop)) 3 + bit (s.level (.float .high)) 2
      + bit (s.level (.float .highHigh)) 1 + bit (s.level (.float .roadFlood)) 0
  | _ => 0

def channelWord (x : Channel) : Nat → Nat
  | 0 => pair x.state.code x.failCause.code
  | 1 => x.lastWidth.toNat
  | 2 => x.scaled
  | 3 => x.reported
  | 4 => highWord x.filter
  | 5 => x.filter
  | 6 => x.suspectCount * 16384 + x.suspectDir.code * 4096 + x.invalidCount * 1024
      + x.recoveryCount * 256 + bit x.reloadPending 1 + x.phase.code
  | 7 => x.sampleTimer.show
  | _ => 0

/-- Pump Record (12.3). Seal Warning is the qualified level (2.1), also of a pump that is not Installed, whose
input R23 says is ignored (DESIGN CHOICE, log 30). -/
def pumpRecordWord (s : State) (p : PumpId) (i : Nat) : Nat :=
  let x := s.pump p
  match i with
  | 0 => pair x.state.code (s.authorityOf (.pump p)).code
  | 1 => pair (s.call p).code
      (match s.stageOf p with
        | some k => k.val + 1
        | none => 0)
  | 2 => pair x.faultCause.code x.stopCause.code
  | 3 => Param.ratedLoad s.prof p
  | 4 => x.history.length
  | 5 => x.timer.showPump
  | 6 => bit (s.installed p) 2 + bit (s.level (.sealWarning p)) 1 + bit x.requeue 0
  | _ => 0

/-- The byte of a Stage Call record. -/
def stageByte (x : StageCall) : Nat := x.basis.code * 16 + pumpNumber x.assigned

/-- A queue entry's word, 0 past the end. -/
def queueEntryWord (s : State) (i : Nat) : Nat :=
  match s.load.queue[i]? with
  | some e => pair (e.pump.val + 1) e.source.code
  | none => 0

def queueWord (s : State) : Nat → Nat
  | 0 => pair s.load.queue.length s.rotation.length
  | 1 => pumpNibbles s.rotation
  | 2 => pair (stageByte (s.stage 0)) (stageByte (s.stage 1))
  | 3 => pair (stageByte (s.stage 2)) (stageByte (s.stage 3))
  | 4 => queueEntryWord s 0
  | 5 => queueEntryWord s 1
  | 6 => queueEntryWord s 2
  | 7 => queueEntryWord s 3
  | _ => 0

/-- A word of the Queue Times record: Queued At of entry `i / 2 + 1`. -/
def queueTimeWord (s : State) (i : Nat) : Nat :=
  match s.load.queue[i / 2]? with
  | some e => if i % 2 = 0 then highWord e.queuedAt.toNat else e.queuedAt.toNat
  | none => 0

/-- A word of the Load record. Words 6 and 7 saturate as the parts of the Committed Load do (DESIGN CHOICE,
log 32). Between a cause of R54 and its load evaluation words 0 and 12 show the Supply State and the Grant
Order as they stand, and words 1 and 9 to 11 the timers and the START_HELD bit, not as the last evaluation left
them (DESIGN CHOICE, log 36). -/
def loadWord (s : State) : Nat → Nat
  | 0 => s.load.supply.code
  | 1 => s.load.settle.show
  | 2 => saturated s.load.budget
  | 3 => saturated s.load.committed
  | 4 => saturated s.load.pumpPart
  | 5 => saturated s.load.lampPart
  | 6 => saturated s.load.headStart
  | 7 => saturated s.load.reserve
  | 8 => saturated s.load.allowance
  | 9 => s.load.stagger.show
  | 10 => s.load.hold.show
  | 11 => bit s.load.heldAppended 0
  | 12 => pumpNibbles s.load.grantOrder
  | _ => 0

def lampGroupWord (s : State) (g : GroupId) (i : Nat) : Nat :=
  let x := s.group g
  match i with
  | 0 => x.requested
  | 1 => x.source.code
  | 2 => x.granted
  | 3 => x.grantedLoad
  | 4 => x.applied
  | 5 => x.offset
  | 6 => pair x.fault.code (bit (s.level (.driverFault g)) 1 + bit x.darkHold 0)
  | _ => 0

def lightingWord (s : State) : Nat → Nat
  | 0 => s.lighting.periodInUse
  | 1 => s.lighting.stage
  | 2 => s.lighting.dwell.show
  | 3 => s.lighting.stageLum
  | 4 => bit s.demandFixed 0
  | 5 => s.lighting.counter
  | _ => 0

def signalWord (s : State) (n : SignalId) (i : Nat) : Nat :=
  let x := s.signal n
  match i with
  | 0 => x.commanded.code
  | 1 => (s.displayed n).code
  | 2 => x.proof.code
  | 3 => x.miss
  | 4 => x.lastSense.code
  | 5 => bit x.checked 1 + bit x.failFlag 0
  | _ => 0

/-- The flags of word 5 of a Drive record. -/
def driveFlags (s : State) (d : DriveId) : Nat :=
  let limits := bit (s.limit d true) 0 + bit (s.limit d false) 1
  match d with
  | .barrier b => limits + bit (s.level (.obstruction b)) 2 + bit (s.drive d).permit 3
  | .penstock =>
    let x := s.gates.stem
    limits + bit (s.level .torque) 2 + bit x.seatFlag 4 + bit x.referenced 5
      + bit x.stopCount.isSome 6 + bit x.encA 7 + bit x.encB 8

def driveWord (s : State) (d : DriveId) (i : Nat) : Nat :=
  let x := s.drive d
  match i with
  | 0 => pair x.state.code x.fault.code
  | 1 => pair x.pending.code x.lastDir.code
  | 2 => x.dwell.show
  | 3 => x.travel.show
  | 4 => pair x.arrival.code (s.limitPosition d).code
  | 5 => driveFlags s d
  | 6 => if d = .penstock then s.gates.stem.count else 0
  | 7 => if d = .penstock then s.position else 0
  | _ => 0

def penstockWord (s : State) : Nat → Nat
  | 0 => pair (bit s.penstock.decideOpen 0) (bit (!s.gravitySet) 0)
  | 1 => bit s.penstock.backflow 1 + bit s.penstock.openCond 0
  | 2 => s.penstock.openDelay.showTenths
  | 3 => signed (max (-32768) (min 32767 s.penstock.head))
  | 4 => pair s.penstock.target.code s.authority.penstock.code
  | 5 => s.penstock.targetPos
  | 6 => s.gates.stem.stopCount.getD 0
  | 7 => pair s.positionState.code s.gates.stem.stall.showStall
  | _ => 0

/-- A Clear Wait Timer as shown: stopped in CLEAR_WAIT it stands at the full time (R135). -/
def clearWaitShown (s : State) (b : Barrier) : Nat :=
  let t := s.closure.clearWait b
  t.showHeld (s.closure.phase b == .clearWait && t == .stopped) (Param.obstructionClearTime s.prof)

def closureWord (s : State) : Nat → Nat
  | 0 => pair s.closure.state.code s.closure.halt.code
  | 1 => bit s.closure.trigger 3 + bit s.closure.depth 2 + bit s.closure.sumpBackup 1
      + bit s.closure.roadFlood 0
  | 2 => s.closure.confirm.show
  | 3 => s.closure.alert.show
  | 4 => s.closure.clearance.showHeld s.closure.held (Param.clearanceTime s.prof)
  | 5 => bit s.closure.held 0
  | 6 => s.closure.obstructions
  | 7 => pair s.closure.phase1.code s.closure.phase2.code
  | 8 => clearWaitShown s .one
  | 9 => clearWaitShown s .two
  | _ => 0

/-! ## Authority, demand and control words (12.3) -/

/-- The code of a key position: pump AUTO, HAND, OFF; unit REMOTE, LOCAL; 0 for LIGHTING. -/
def keyCode (s : State) : UnitId → Nat
  | .pump p => if s.keyOff p then 2 else if s.keyHand p then 1 else 0
  | .penstock => bit (s.level .penstockKey) 0
  | .road => bit (s.level .roadKey) 0
  | .lighting => 0

def authorityWord (s : State) (i : Nat) : Nat :=
  if i < 7 then pair (keyCode s (unitAt i)) (s.authorityOf (unitAt i)).code
  else bit (s.level (.button .close)) 3 + bit (s.level (.button .reopen)) 2
    + bit (s.level (.button .faultReset)) 1 + bit (s.level (.button .lampTest)) 0

/-- The demand words 0x148..0x156. -/
def demandWord (s : State) (a : Nat) : Nat :=
  let x := s.authority.demands
  if a < 0x14C then bit (x.pumpRun[a - 0x148]?.getD false) 0
  else if a = 0x14C then x.action.code
  else if a = 0x14D then x.position
  else if a = 0x14E then x.road.code
  else if a = 0x150 then bit x.fixed 0
  else x.duties[a - 0x151]?.getD 0

/-- The words of a Link record (12.3), all of them link-owned: the items of the link that reads (R183;
log 18). -/
def linkWord (x : LinkPort) : Nat → Nat
  | 0 => x.state.code
  | 1 => pair (bit x.split 0) x.fifo.length
  | 2 => x.readPtr.toNat
  | 3 => x.writePtr.toNat
  | 4 => x.silence.show
  | 5 => x.refAddr.toNat
  | 6 => pair x.refReason.code (bit x.refusal 2 + bit x.overrun 1 + bit x.missed 0)
  | 7 => x.refValue.toNat
  | _ => 0

/-- A field of the entry under the link's cursor, 0 where there is none (R171). -/
def eventField (s : State) (k : Link) (f : Event → Nat) : Nat :=
  match s.underCursor k with
  | some e => f e
  | none => 0

/-- The Event Window as a link reads it (R171). -/
def eventWord (s : State) (k : Link) : Nat → Nat
  | 0 => (s.link k).unread.getD 0
  | 1 => eventField s k fun e => e.seq.toNat
  | 2 => eventField s k fun e => pair e.kind.code e.subject
  | 3 => eventField s k fun e => e.detail.toNat
  | 4 => eventField s k fun e => highWord e.time.toNat
  | 5 => eventField s k fun e => e.time.toNat
  | _ => 0

def profileControlWord (s : State) : Nat → Nat
  | 0 => s.profile.crc.toNat
  | 1 => pair (bit s.profile.site 0) s.profile.commit.code
  | 2 => pair (ownerCode s.profile.owner) s.profile.outcome.code
  | 3 => s.profile.failAddr.toNat
  | _ => 0

/-! ## The whole image -/

/-- A word of the profile or its staging. -/
def profileWordAt (v : Vector Word 256) (off : Nat) : Nat := (v[off]?.getD 0).toNat

/-- The channel of a place in the fixed order. -/
def channelAt : Nat → ChannelId
  | 0 => .sumpA
  | 1 => .sumpB
  | 2 => .carriageway
  | 3 => .river
  | _ => .luminance

/-- The drive of a place in index order. -/
def driveAt : Nat → DriveId
  | 0 => .barrier .one
  | 1 => .barrier .two
  | _ => .penstock

/-- The word at an address below 0x140. -/
def statusWord (s : State) (a : Nat) : Nat :=
  if a < 0x008 then stationWord s a
  else if a < 0x010 then sumpWord s (a - 0x008)
  else if a < 0x038 then channelWord (s.channel (channelAt ((a - 0x010) / 8))) (a % 8)
  else if a < 0x060 then pumpRecordWord s (Fin.ofNat 4 ((a - 0x040) / 8)) (a % 8)
  else if a < 0x068 then queueWord s (a - 0x060)
  else if a < 0x078 then loadWord s (a - 0x068)
  else if a < 0x080 then queueTimeWord s (a - 0x078)
  else if a < 0x0B0 then lampGroupWord s (Fin.ofNat 6 ((a - 0x080) / 8)) (a % 8)
  else if a < 0x0B6 then lightingWord s (a - 0x0B0)
  else if a < 0x100 then signalWord s (Fin.ofNat 8 ((a - 0x0C0) / 8)) (a % 8)
  else if a < 0x118 then driveWord s (driveAt ((a - 0x100) / 8)) (a % 8)
  else if a < 0x120 then penstockWord s (a - 0x118)
  else closureWord s (a - 0x120)

/-- The word at an address from 0x140 on, as a link reads it. -/
def controlWord (s : State) (k : Link) (a : Nat) : Nat :=
  if a < 0x148 then authorityWord s (a - 0x140)
  else if a < 0x157 then demandWord s a
  else if a < 0x180 then (s.clearCount (unitAt (a - 0x158))).toNat
  else if a < 0x190 then linkWord (s.link k) ((a - 0x180) % 8)
  else if a < 0x196 then eventWord s k (a - 0x190)
  else if a = 0x196 then (s.link k).acked.toNat
  else if a < 0x200 then profileControlWord s (a - 0x1A0)
  else if a < 0x300 then profileWordAt s.profile.active (a - 0x200)
  else profileWordAt s.profile.staging (a - 0x300)

/-- The word that an address shows to a reading link (R183); an unmapped address reads 0. -/
def imageWord (s : State) (k : Link) (a : Addr) : Word :=
  let n := a.toNat
  if isMapped n then BitVec.ofNat 16 (if n < 0x140 then statusWord s n else controlWord s k n) else 0

end Sys2Proof.Machine
end

