-- ==== Sys2Proof/Machine/Flags.lean ====
section
/-! DEFINITION. The flags a master sees: the Link Status byte (R163, 12.5) and the attention line (R174). -/

namespace Sys2Proof.Machine

/-- The link's unread count (R171). -/
def LinkPort.unreadCount (x : LinkPort) : Nat := if x.state = .active then x.unread.getD 0 else 0

/-- The eight flags of R163, bit 7 first (12.5). -/
def statusFlags (s : State) (k : Link) : List (Bool × Nat) :=
  let x := s.link k
  [(x.state == .starting || x.state == .restarted, 7), (x.fifo.isEmpty, 6), (x.refusal, 5),
    (x.overrun, 4), (decide (0 < x.unreadCount), 3), (x.missed, 2), (s.profile.site, 1),
    (s.profile.owner == some k, 0)]

/-- The Link Status byte, formed now for a link (R163). -/
def statusByte (s : State) (k : Link) : Byte :=
  BitVec.ofNat 8 (((statusFlags s k).map fun f => bit f.1 f.2).sum)

/-- The attention line of a link is asserted (R174); it is released while reset is held and through
start-up (R181). -/
def attention (s : State) (k : Link) : Bool :=
  s.phase == .running
    && ((s.link k).state == .restarted || decide (0 < (s.link k).unreadCount))

end Sys2Proof.Machine
end

