-- ==== Sys2Proof/Machine/Profile.lean ====
section
/-! DEFINITION. The Profile Store (spec/11): the CRC, validation, the edit protocol, the NV write and the
commit event. -/

namespace Sys2Proof.Machine

/-! ## CRC-16 (R176) -/

/-- Shift one bit through the register: generator x^16 + x^12 + x^5 + 1. -/
def crcBit (crc : Word) : Word := if crc.getLsbD 15 then (crc <<< 1) ^^^ 0x1021 else crc <<< 1

/-- One byte enters the register, most significant bit first. -/
def crcByte (crc : Word) (b : Byte) : Word :=
  crcBit (crcBit (crcBit (crcBit (crcBit (crcBit (crcBit (crcBit (crc ^^^ (b.zeroExtend 16 <<< 8)))))))))

/-- The CRC of a sequence of bytes: preset to all ones, no final inversion. -/
def crcOfBytes (bytes : List Byte) : Word := bytes.foldl crcByte 0xFFFF

/-- The CRC of profile words, in address order and high byte first. -/
def crcOfWords (v : Vector Word 256) : Word := crcOfBytes (v.toList.flatMap bytesOfWord)

/-- The NV copy is good: readable, with a stored CRC that agrees (R176). -/
def nvGood (readable : Bool) (p : ProfileStore) : Bool :=
  readable && p.nvCrc == some (crcOfWords p.nvWords)

/-! ## Validation (R178) -/

/-- Ranges of the words that start at an offset: minimum and maximum of each. -/
def stationRanges : List (Nat × Nat) :=
  [(50, 1000), (20, 500), (0, 5000), (5, 120), (1, 9999), (0, 5000), (1, 4), (2, 120), (10, 60),
    (1, 65535), (1, 65535), (0, 65534), (0, 60), (1, 60), (500, 2000), (1000, 20000)]

/-- Ranges of one channel's words (1.2.1); `mountMax` is 0 for LUMINANCE. -/
def channelRanges (mountMax : Nat) : List (Nat × Nat) :=
  [(100, 20000), (1000, 40000), (1, 20000), (0, mountMax), (0, 65535), (1, 65535), (0, 6), (0, 5000),
    (50, 2000)]

/-- Ranges of one pump's words (2.1). -/
def pumpRanges : List (Nat × Nat) :=
  [(0, 1), (0, 65535), (2, 30), (2, 30), (10, 900), (10, 900), (1, 12)]

/-- Ranges of one lamp group's words (4.1). -/
def groupRanges : List (Nat × Nat) := [(0, 20000), (0, 1000), (1, 6), (0, 999), (0, 1)]

/-- Ranges of one lighting stage's words (4.1). -/
def stageRanges : List (Nat × Nat) :=
  [(0, 20000), (0, 1000), (0, 1000), (0, 1000), (0, 1000), (0, 1000), (0, 1000)]

/-- Ranges of the gate words (6.1). -/
def gateRanges : List (Nat × Nat) :=
  [(50, 1000), (5, 120), (10, 600), (100, 65535), (0, 5000), (0, 10000), (1, 30)]

/-- Ranges of the closure words (8.1). -/
def closureRanges : List (Nat × Nat) :=
  [(10, 20000), (0, 19990), (0, 600), (0, 40000), (5, 120), (5, 300), (2, 120), (0, 10)]

/-- Number consecutive ranges from an offset. -/
def rangesFrom : Nat → List (Nat × Nat) → List (Nat × Nat × Nat)
  | _, [] => []
  | off, r :: rest => (off, r.1, r.2) :: rangesFrom (off + 1) rest

/-- Every parameter word with its range, in ascending offset (12.4 and the parameter tables). -/
def allRanges : List (Nat × Nat × Nat) :=
  rangesFrom 0x00 stationRanges
    ++ rangesFrom 0x10 (channelRanges 20000) ++ rangesFrom 0x19 (channelRanges 20000)
    ++ rangesFrom 0x22 (channelRanges 20000) ++ rangesFrom 0x2B (channelRanges 20000)
    ++ rangesFrom 0x34 (channelRanges 0)
    ++ rangesFrom 0x40 (List.replicate 16 (0, 40000))
    ++ rangesFrom 0x50 pumpRanges ++ rangesFrom 0x58 pumpRanges ++ rangesFrom 0x60 pumpRanges
    ++ rangesFrom 0x68 pumpRanges
    ++ rangesFrom 0x70 [(1, 8), (0, 5000), (10, 600)]
    ++ rangesFrom 0x78 (groupRanges ++ groupRanges ++ groupRanges ++ groupRanges ++ groupRanges
        ++ groupRanges)
    ++ rangesFrom 0x98 (stageRanges ++ stageRanges ++ stageRanges ++ stageRanges ++ stageRanges
        ++ stageRanges ++ stageRanges ++ stageRanges)
    ++ rangesFrom 0xD0 gateRanges
    ++ rangesFrom 0xD8 [(0, 5000), (0, 5000), (10, 3600)]
    ++ rangesFrom 0xE0 closureRanges

/-- The offset of the first word outside its range (R178, range pass). -/
def rangeFailure (v : Vector Word 256) : Option Nat :=
  (allRanges.find? fun r =>
    !(decide (r.2.1 ≤ Param.word v r.1) && decide (Param.word v r.1 ≤ r.2.2))).map (·.1)

/-- The pumps that a profile installs. -/
def installedCount (v : Vector Word 256) : Nat := allPumps.countP (Param.installed v)

/-- The Start Levels' ascent in a set: one check for each `k` from 2 on, naming S_k. -/
def ascendChecks (v : Vector Word 256) (gravity : Bool) : List (Bool × Nat) :=
  [(1 : StageId), 2, 3].map fun k =>
    (decide (Param.startLevel v gravity (k - 1) < Param.startLevel v gravity k),
      Param.setBase gravity + k.val)

/-- T_k < S_k in a set, naming T_k. -/
def stopChecks (v : Vector Word 256) (gravity : Bool) : List (Bool × Nat) :=
  allStages.map fun k =>
    (decide (Param.stopLevel v gravity k < Param.startLevel v gravity k),
      Param.setBase gravity + 4 + k.val)

/-- Rate Advance < S_k − T_k for k = 2..4 in a set, a signed difference, naming Rate Advance. -/
def advanceChecks (v : Vector Word 256) (gravity : Bool) : List (Bool × Nat) :=
  [(1 : StageId), 2, 3].map fun k =>
    (decide (Param.rateAdvance v + Param.stopLevel v gravity k < Param.startLevel v gravity k), 0x05)

/-- The thresholds of stages 1 to Installed Stages: the first is 0, each later one above the one before. -/
def thresholdChecks (v : Vector Word 256) : List (Bool × Nat) :=
  (Param.threshold v 1 == 0, 0x98)
    :: [2, 3, 4, 5, 6, 7, 8].map fun n =>
      (decide (Param.installedStages v < n) || decide (Param.threshold v (n - 1) < Param.threshold v n),
        0x98 + 7 * (n - 1))

/-- No group's Priority repeats an earlier group's, naming the group's Priority word. -/
def priorityChecks (v : Vector Word 256) : List (Bool × Nat) :=
  allGroups.map fun g =>
    ((allGroups.filter fun h => decide (h.val < g.val)).all fun h =>
        Param.priority v h != Param.priority v g,
      0x78 + 5 * g.val + 2)

/-- The relation pass of R178 in its order: each check and the offset it reports. -/
def relationChecks (v : Vector Word 256) : List (Bool × Nat) :=
  ([ChannelId.sumpA, .sumpB, .carriageway, .river, .luminance].map fun c =>
      (decide (Param.faultLow v c < Param.faultHigh v c), 0x10 + 9 * Param.channelIndex c + 5))
    ++ ascendChecks v true ++ ascendChecks v false
    ++ stopChecks v true ++ stopChecks v false
    ++ advanceChecks v true ++ advanceChecks v false
    ++ [(decide (Param.reopenDepth v < Param.closureDepth v), 0xE1),
      (decide (Param.gateReserve v < Param.mainsCapacity v)
        && decide (Param.gateReserve v < Param.generatorCapacity v), 0x0B)]
    ++ thresholdChecks v ++ priorityChecks v
    ++ [(decide (0 < installedCount v), 0x50),
      (decide (Param.maxRunning v ≤ installedCount v), 0x06)]

/-- The offset of the word that fails validation, the range pass first (R178). -/
def validate (v : Vector Word 256) : Option Nat :=
  (rangeFailure v).or (((relationChecks v).find? fun c => !c.1).map (·.2))

/-! ## The edit protocol (R177, R178) -/

/-- Why a control command is refused before the edit is looked at, and by the edit's owner (R177). The
acceptance rows are judged by the caller. -/
def controlRefusal (s : State) (k : Link) (opening : Bool) : Option Reason :=
  if !s.linkActive k then some .notAuthority
  else if s.profile.commit = .writing then some .commitInProgress
  else match s.profile.owner with
    | none => if opening then none else some .noEdit
    | some j => if j = k then none else some .editHeld

/-- Refuse a control command, or act. -/
def judgeControl (k : Link) (value : Word) (opening : Bool) (act : State → State) (s : State) : State :=
  match controlRefusal s k opening with
  | some r => s.refuse k 0x1A0 r value
  | none => act s

/-- OPEN_EDIT is applied (R177). -/
def applyOpenEdit (k : Link) (s : State) : State :=
  judgeControl k 1 true
    (fun s =>
      if s.profile.owner.isNone then
        s.modProfile fun x =>
          { x with staging := x.active, owner := some k, outcome := .none, failAddr := 0 }
      else s) s

/-- The edit is abandoned (R177). -/
def abandonEdit (s : State) : State :=
  s.modProfile fun x => { x with owner := none, outcome := .abandoned }

/-- ABANDON is applied (R177). -/
def applyAbandon (k : Link) (s : State) : State := judgeControl k 2 false abandonEdit s

/-- A COMMIT accepted by R177 validates the staging: the failing word is reported, or the NV write begins
and has invalidated the stored CRC (R178, R179). -/
def commitEdit (k : Link) (s : State) : State :=
  match validate s.profile.staging with
  | some off =>
    let addr := stagingAddr (BitVec.ofNat 8 off)
    (s.modProfile fun x => { x with outcome := .refused, failAddr := addr }).append
      .profileRefused (linkIndex k) addr.toNat
  | none =>
    s.modProfile fun x => { x with commit := .writing, failAddr := 0, nvCrc := none, committer := k }

/-- COMMIT is applied (R177). -/
def applyCommit (k : Link) (s : State) : State := judgeControl k 3 false (commitEdit k) s

/-- Why a staging word is refused, the first reason of R177 that matches. -/
def stagingRefusal (s : State) (k : Link) : Option Reason :=
  if !s.linkActive k then some .notAuthority
  else if s.profile.commit = .writing then some .commitInProgress
  else match s.profile.owner with
    | none => some .noEdit
    | some j => if j = k then none else some .editHeld

/-- A staging word is applied: stored exactly as written, or refused (R177). -/
def applyStaging (k : Link) (offset : BitVec 8) (value : Word) (s : State) : State :=
  match stagingRefusal s k with
  | some r => s.refuse k (stagingAddr offset) r value
  | none => s.modProfile fun x => { x with staging := x.staging.set offset.toNat value offset.isLt }

/-- The owner of the edit leaves ACTIVE (R177, R179). -/
def editOnLeave (k : Link) (s : State) : State :=
  if s.profile.owner = some k then
    if s.profile.commit = .writing then s.modProfile fun x => { x with owner := none }
    else abandonEdit s
  else s

/-! ## The commit event (R180) -/

/-- The five channels in order. -/
def allChannels : List ChannelId := [.sumpA, .sumpB, .carriageway, .river, .luminance]

/-- A Sump Level update, and what its readers do with it: the pumps, the penstock, the closure (R18; the
order among readers is a DESIGN CHOICE, log 10). -/
def sumpUpdated (s : State) : State :=
  let old := s.sump.source
  closureOnSump (penstockEvaluation false (pumpsOnSump old (updateSump s)))

/-- The Measurement Unit's channels take a new profile (R10, R16). -/
def channelsOnCommit (old : Vector Word 256) (s : State) : State :=
  allChannels.foldl (fun s c => s.modChannel c (·.onCommit old s.prof c)) s

/-- What the readers of the channels do where a commit has moved a channel's State since `before`. -/
def channelReaders (before s : State) : State :=
  let s := if before.channels.sumpA.state ≠ s.channels.sumpA.state
      ∨ before.channels.sumpB.state ≠ s.channels.sumpB.state then sumpUpdated s else s
  if before.channels.carriageway.state ≠ s.channels.carriageway.state then closureOnCarriageway true s
  else s

/-- The replacement of the Active Profile is delivered to every block (R180); the order among blocks is a
DESIGN CHOICE, log 10. -/
def deliverCommit (old : Vector Word 256) (wasSite : Bool) (s : State) : State :=
  let s' := pumpsOnCommit old (channelReaders s (channelsOnCommit old s))
  let s' := lightingOnCommit (reportLamps s')
  authorityOnCommit (!wasSite) (penstockEvaluation false s')

/-- The NV write succeeds (R179). -/
def nvSuccess (s : State) : State :=
  let old := s.profile.active
  let was := s.profile.site
  let crc := crcOfWords s.profile.staging
  let s := s.modProfile fun x =>
    { x with active := x.staging, site := true, crc := crc, nvWords := x.staging, nvCrc := some crc,
             commit := .idle, owner := none, outcome := .committed }
  deliverCommit old was (s.append .profileCommitted (linkIndex s.profile.committer) crc.toNat)

/-- The NV write fails (R179). -/
def nvFailure (s : State) : State :=
  (s.modProfile fun x => { x with commit := .idle, outcome := .nvFail }).append
    .profileNvFail (linkIndex s.profile.committer) 0

/-! ## Start-up (R176, R181) -/

/-- The Profile Store at the end of the NV check (R181 step 1). -/
def profileOnRelease (readable : Bool) (s : State) : State :=
  let good := nvGood readable s.profile
  let active := if good then s.profile.nvWords else builtinWords
  s.modProfile fun x =>
    { x with active := active, site := good, crc := if good then crcOfWords x.nvWords else 0,
             staging := active, owner := none, commit := .idle, outcome := .none, failAddr := 0,
             committer := .a }

end Sys2Proof.Machine
end

