-- ==== Sys2Proof/Machine/Links.lean ====
section
/-! DEFINITION. The Link Ports, the Image Port and the Event Queue's acknowledge (spec/10). -/

namespace Sys2Proof.Machine

/-! ## Link state (R160, R161) -/

/-- Entry to ACTIVE (R160): the Silence Timer starts, the cursor stands on the oldest entry, LINK_ACTIVE
is appended. -/
def enterActive (k : Link) (s : State) : State :=
  let n := s.events.entries.length
  (s.modLink k fun x =>
    { x with state := .active, silence := .running (Param.silenceTime s.prof), unread := some n }).append
      .linkActive (linkIndex k) 0

/-- An ACTIVE link becomes SILENT (R160, R173, R151, R177): cursor absent, LINK_SILENT, units returned,
edit abandoned, passed entries removed. -/
def leaveActive (k : Link) (s : State) : State :=
  let s := (s.modLink k fun x => { x with state := .silent, silence := .stopped, unread := none }).append
    .linkSilent (linkIndex k) 0
  (editOnLeave k (returnUnits k s)).removePassed

/-- The Silence Timer expires (R161). -/
def silenceExpired (k : Link) (s : State) : State :=
  if (s.link k).silence.isRunning && s.linkActive k then leaveActive k s else s

/-- A valid frame's command byte completes (R160, R161): the Silence Timer of an ACTIVE link restarts, a
SILENT link becomes ACTIVE. -/
def frameBegins (k : Link) (s : State) : State :=
  match (s.link k).state with
  | .active => s.modLink k fun x => { x with silence := .running (Param.silenceTime s.prof) }
  | .silent => enterActive k s
  | .starting | .restarted => s

/-! ## The Image Port (R168) -/

/-- A word is applied: on a running part, when it is the oldest of its link's FIFO, which it then leaves,
or when the FIFO is empty and the command itself is the application (log 7). -/
def portApply (k : Link) (addr : Addr) (value : Word) (f : State → State) (s : State) : State :=
  if s.phase = .running then
    match (s.link k).fifo with
    | [] => f s
    | e :: _ =>
      if e = (addr, value) then (f s).modLink k fun x => { x with fifo := x.fifo.drop 1 } else s
  else s

/-- An acknowledge is applied (R172, R173). -/
def applyAck (k : Link) (seq : Word) (s : State) : State :=
  match s.underCursor k with
  | some e =>
    if s.linkActive k && e.seq == seq then
      (s.modLink k fun x => { x with unread := x.unread.map (· - 1), acked := seq }).removePassed
    else s.refuse k 0x196 .sequenceMismatch seq
  | none => s.refuse k 0x196 .sequenceMismatch seq

/-- Why a word that no other row names is refused (R150, R153, R156, R177, R184). -/
def otherWordReason (s : State) (k : Link) (a : Addr) : Reason :=
  let n := a.toNat
  if !isMapped n then .unmapped
  else if !isWritable n then .readOnly
  else if n < 0x147 then .outOfRange
  else if n < 0x158 then
    let u : UnitId := if n < 0x14C then unitAt (n - 0x148) else if n < 0x14E then .penstock
      else if n = 0x14E then .road else .lighting
    if s.holds k u then .outOfRange else .notAuthority
  else if s.linkActive k then .outOfRange
  else .notAuthority

/-- A word of READ_ONLY_OR_UNMAPPED_WRITE is applied (R184); a word that another row names is that row's
and has no effect here. -/
def applyOther (k : Link) (a : Addr) (value : Word) (s : State) : State :=
  if rowOfWord k a value = .readOnlyOrUnmappedWrite k a value then
    s.refuse k a (otherWordReason s k a) value
  else s

/-! ## Reset release (R175, R181) -/

/-- A reset comes: the frame in progress is lost, and a select still asserted is ignored (R162). -/
def Select.lose : Select → Select
  | .released => .released
  | .waiting | .framing _ _ | .ignored => .ignored

/-- Both links lose their frames (R162). -/
def loseFrames (s : State) : State :=
  { s with linkA := { s.linkA with select := s.linkA.select.lose },
           linkB := { s.linkB with select := s.linkB.select.lose } }

/-- A Link Port at the release of reset (R175), whose select line stands as it does. -/
def LinkPort.starting (x : LinkPort) : LinkPort :=
  { LinkPort.atReset with state := .starting, select := x.select.lose }

/-- Both links pass from STARTING to RESTARTED (R160, R181). -/
def linksRestarted (s : State) : State :=
  { s with linkA := { s.linkA with state := .restarted }, linkB := { s.linkB with state := .restarted } }

end Sys2Proof.Machine
end

