-- ==== Sys2Proof/Machine/Flow.lean ====
section
/-! DEFINITION. How an event at one block reaches the others (00 section 3.2): input qualification and
its readers (R1), completed samples and their readers (R9, R18), the whole seconds of the Station Clock
(R48). -/

namespace Sys2Proof.Machine

/-- A block acts only on a part that is out of reset with its start-up complete (R181). -/
def whenRunning (f : State → State) (s : State) : State := if s.phase = .running then f s else s

/-! ## Input qualification (R1, R2) -/

/-- The debounce time of an input's class (R2, 00 section 4.5). -/
def debounceTime (v : Vector Word 256) : InputId → Nat
  | .float _ => Param.floatDebounce v
  | _ => Param.contactDebounce v

/-- A pin takes a level (R1): opposite to the qualified level it starts the debounce timer, back at it it
cancels the timer. -/
def QInput.pinTo (level : Bool) (time : Nat) (q : QInput) : QInput :=
  if q.pin = level then q
  else if level = q.level then { q with pin := level, candidate := false, timer := .stopped }
  else { q with pin := level, candidate := true, timer := .running time }

/-- The qualified level takes the pin's level (R1). -/
def QInput.accept (q : QInput) : QInput :=
  { q with level := q.pin, candidate := false, timer := .stopped }

/-- An input of the penstock drive has changed since `before` (R102, R111, R114, R122). -/
def penstockInput (before : State) (r : State × News) : State := penstockFollow before r.1

/-- A change of a limit's qualified level reaches its drive and the drive's commander. -/
def limitInput (d : DriveId) (up : Bool) (before s : State) : State :=
  match d with
  | .barrier b => barrierLimitChanged b up s
  | .penstock => penstockInput before (limitChanged .penstock up s)

/-- The owning block takes a change of qualified level, which turned `before` into the present state, as
an event of its own (R1). -/
def inputChanged (i : InputId) (before s : State) : State :=
  match i with
  | .float f =>
    let s := pumpsOnFloat f s
    if f = .roadFlood then closureOnFlood s else s
  | .runProven p => if s.level (.runProven p) then runProvenActive p s else runProvenInactive p s
  | .tripped p => if s.level (.tripped p) then trippedActive p s else s
  | .sealWarning p => if s.level (.sealWarning p) then sealWarningActive p s else s
  | .mainsHealthy | .generatorOnLoad => supplyChanged s
  | .driverFault g => if s.level (.driverFault g) then driverFaultActive g s else s
  | .upLimit d => limitInput d true before s
  | .downLimit d => limitInput d false before s
  | .obstruction b => barrierObstructionChanged b s
  | .torque => if s.level .torque then penstockInput before (torqueActive s) else s
  | .keyHand p | .keyOff p => keyChanged (.pump p) before s
  | .penstockKey => keyChanged .penstock before s
  | .roadKey => keyChanged .road before s
  | .button b => buttonChanged b s

/-- A pin changes level (R1); while reset is held or start-up runs, the pin alone changes. -/
def pinChanged (i : InputId) (level : Bool) (s : State) : State :=
  let q := s.inputs.get i
  let q' := if s.phase = .running then q.pinTo level (debounceTime s.prof i) else { q with pin := level }
  s.modInputs (·.put i q')

/-- A debounce timer expires (R1). -/
def debounceExpired (i : InputId) (s : State) : State :=
  let q := s.inputs.get i
  if q.timer.isRunning then
    let s' := s.modInputs (·.put i q.accept)
    if q.pin = q.level then s' else inputChanged i s s'
  else s

/-! ## Samples (R3, R9, R13, R18) -/

/-- What the readers of a channel do once a sample has been processed or its State has changed (R18, R78,
R117, R129). -/
def channelChanged (c : ChannelId) (before s : State) : State :=
  let changed := (before.channel c).state != (s.channel c).state
  match c with
  | .sumpA | .sumpB => sumpUpdated s
  | .carriageway => closureOnCarriageway changed s
  | .river => penstockEvaluation false s
  | .luminance => if changed || s.healthy .luminance then luminanceUpdate s else s

/-- A falling edge: in AWAITING_FALL it completes a pulse, whose width is processed unless the channel is
UNCALIBRATED (R3, R10). -/
def pulseFell (c : ChannelId) (s : State) : State :=
  if (s.channel c).phase = .awaitingFall then
    let s' := captureFall c s
    if (s.channel c).state = .uncalibrated then s'
    else channelChanged c s (processWidth c (s.pulseWidth c).toNat s')
  else s

/-- The Sample Timer expires (R13). -/
def sampleExpired (c : ChannelId) (s : State) : State :=
  let x := s.channel c
  if x.sampleTimer.isRunning && (x.state == .waiting || x.state == .healthy) then
    channelChanged c s (failChannel c .sampleTimeout s)
  else s

/-- The Window Timer reaches zero (R20). -/
def windowExpired (s : State) : State := if s.sump.windowTimer.isRunning then endWindow s else s

/-! ## The Station Clock (R48, R182) -/

/-- The Station Clock runs: not while a power-on is held (R182). -/
def clockRuns (s : State) : Bool := !(s.phase == .held && s.restartCause == .powerOn)

/-- A whole second of the Station Clock: the clock, the rate window's timer, the Start Histories (R20,
R48). -/
def clockSecond (s : State) : State :=
  if clockRuns s then
    let s : State := { s with stationClock := s.stationClock + 1, subSecond := 0 }
    whenRunning (fun s => settlePumps (s.modSump fun x => { x with windowTimer := x.windowTimer.tick })) s
  else s

/-! ## Events of the penstock drive (R109, R110, R122) -/

/-- An accepted edge (R109), and the controller's part (R122). -/
def edgeAccepted (e : EncoderChannel) (s : State) : State := penstockFollow s (acceptEdge e s).1

/-- A double transition (R110), and the controller's part (R122). -/
def edgeDoubled (s : State) : State := penstockFollow s (doubleEdge s)

/-- A drive's Dwell Timer expires, and its commander's part (R101, R122, R134, R135, R140). -/
def driveDwellExpired (d : DriveId) (s : State) : State :=
  match d with
  | .barrier b =>
    let (s, news) := dwellExpired (.barrier b) s
    barrierNews b news s
  | .penstock => penstockInput s (dwellExpired .penstock s)

/-- A drive's Travel Timer expires, and its commander's part (R103, R122, R136). -/
def driveTravelExpired (d : DriveId) (s : State) : State :=
  match d with
  | .barrier b =>
    let (s, news) := travelExpired (.barrier b) s
    barrierNews b news s
  | .penstock => penstockInput s (travelExpired .penstock s)

/-- The Stall Timer expires (R113, R122). -/
def driveStallExpired (s : State) : State := penstockInput s (stallExpired s)

/-! ## Signals (R92, R95) -/

/-- The counter reaches a position of the present Flash Cycle: the checks, then Red Proven once for all of
them (R92, R95). A position that lies behind the counter or beyond the cycle is not reached. -/
def positionReached (pos : Word) (sense : BitVec 8) (s : State) : State :=
  if s.signals.position ≤ pos.toNat ∧ pos.toNat < s.signals.periodInUse then
    redDelivered s (deriveRed (checkAt pos.toNat sense s))
  else s

/-! ## Pump timers (R27, R28, R30, R31) -/

/-- The pump is in a State and the timer of that State runs. -/
def pumpTiming (s : State) (p : PumpId) (x : PumpState) : Bool :=
  (s.pump p).state == x && (s.pump p).timer.isRunning

/-- Start Proof expires (R27). -/
def startProofExpired (p : PumpId) (s : State) : State :=
  if pumpTiming s p .starting then settlePumps (enterFaulted p .startFail s) else s

/-- Min Run expires (R28). -/
def minRunExpired (p : PumpId) (s : State) : State :=
  if pumpTiming s p .running then
    let s := s.modPump p fun x => { x with timer := .expired }
    settlePumps (if s.call p = .none then enterStopping p .callEnded s else s)
  else s

/-- Stop Proof expires (R30). -/
def stopProofExpired (p : PumpId) (s : State) : State :=
  if pumpTiming s p .stopping then settlePumps (enterFaulted p .failToStop s) else s

/-- Min Rest expires (R31). -/
def minRestExpired (p : PumpId) (s : State) : State :=
  if pumpTiming s p .resting then settlePumps (enterIdle p s) else s

end Sys2Proof.Machine
end

