-- ==== Sys2Proof/Machine/DriveCommands.lean ====
section
/-! DEFINITION. The meanings of the drive, encoder and penstock commands (spec/06, spec/07). -/

namespace Sys2Proof.Machine

/-- DWELL_TIMER_EXPIRY (R101, R107). -/
def execDwellTimerExpiry (d : DriveId) (s : State) : Host.Outcome State Fault Refusal :=
  .next (whenRunning (driveDwellExpired d) s)

/-- TRAVEL_TIMER_EXPIRY (R103). -/
def execTravelTimerExpiry (d : DriveId) (s : State) : Host.Outcome State Fault Refusal :=
  .next (whenRunning (driveTravelExpired d) s)

/-- STALL_TIMER_EXPIRY (R113). -/
def execStallTimerExpiry (s : State) : Host.Outcome State Fault Refusal :=
  .next (whenRunning (driveStallExpired) s)

/-- ACCEPTED_EDGE (R109, R112). -/
def execAcceptedEdge (e : EncoderChannel) (s : State) : Host.Outcome State Fault Refusal :=
  .next (whenRunning (edgeAccepted e) s)

/-- DOUBLE_TRANSITION (R110). -/
def execDoubleTransition (s : State) : Host.Outcome State Fault Refusal :=
  .next (whenRunning (edgeDoubled) s)

/-- OPEN_DELAY_TIMER_EXPIRY (R119). -/
def execOpenDelayTimerExpiry (s : State) : Host.Outcome State Fault Refusal :=
  .next (whenRunning (openDelayExpired) s)

end Sys2Proof.Machine
end

