-- ==== Sys2Proof/Machine/Reset.lean ====
section
/-! DEFINITION. Reset and start-up (spec/11 section 11.6, and the reset rule of every chapter). -/

namespace Sys2Proof.Machine

/-- The RESTART cause of a HARD_RESET (R164). -/
def causeOf : Link → RestartCause
  | .a => .linkA
  | .b => .linkB

/-- Clear every Start History (R48, R182). -/
def clearHistories (s : State) : State :=
  allPumps.foldl (fun s p => s.modPump p fun x => { x with history := [] }) s

/-- A power-on holds the part in reset (R181, R182). -/
def powerOnHeld (s : State) : State :=
  clearHistories
    { loseFrames s with phase := .held, restartCause := .powerOn, stationClock := 0, subSecond := 0 }

/-- A hard reset holds the part (R181, R182). A power-on that is still held keeps its cause; any other reset
that is still held has its cause replaced by the later one (DESIGN CHOICE, log 15). -/
def hardResetHeld (cause : RestartCause) (s : State) : State :=
  if s.phase = .held ∧ s.restartCause = .powerOn then s
  else { loseFrames s with phase := .held, restartCause := cause }

/-- The release of reset (R151, R170, R175, R181, R182): links STARTING, so that neither owns an edit, Event
Queue emptied with next Sequence 1, the NV check begins. The profile source of before the reset stands, and
shows as SITE_PROFILE, until the NV check has ended (R163, R181; DESIGN CHOICE, log 15). -/
def releaseReset (s : State) : State :=
  if s.phase = .held then
    { s with phase := .starting, linkA := s.linkA.starting, linkB := s.linkB.starting,
             profile := { s.profile with owner := none },
             events := { entries := [], nextSeq := 1 },
             stationClock := if s.restartCause = .powerOn then 0 else s.stationClock }
  else s

/-- An input takes its pin's level at once (R1). -/
def takePins (s : State) : State :=
  allInputs.foldl (fun s i => s.modInputs (·.put i (s.inputs.get i).accept)) s

/-- The Measurement Unit at release (R17, R21). -/
def measurementOnRelease (s : State) : State :=
  let s := allChannels.foldl (fun s c => s.setChannel c (.onRelease s.prof s.profile.site c)) s
  s.modSump fun _ =>
    { level := 0, valid := false, source := .floats, rate := 0, windowStart := 0,
      windowTimer := .stopped, windowLen := 0, disagreement := false }

/-- RESTART, and PROFILE_INVALID under BUILTIN (R181 step 2). -/
def appendRestart (s : State) : State :=
  let s := s.append .restart 0 s.restartCause.code
  if s.profile.site then s else s.append .profileInvalid 0 0

/-- Every other block takes its reset-release state (R181 step 3). The first load evaluation is made
(R69), and the initial Closure State is subject to the triggers at once (R144). The order among the blocks
is a DESIGN CHOICE, log 10. -/
def blocksOnRelease (encA encB : Bool) (s : State) : State :=
  let s := authorityOnRelease (measurementOnRelease (takePins s))
  let s := pumpsOnRelease (lightingOnRelease (loadOnRelease s))
  let s := penstockOnRelease (roadOnRelease (drivesOnRelease encA encB s))
  judgeTrigger (firstEvaluation s)

/-- The end of the NV check completes start-up (R181). -/
def startUpEnds (readable encA encB : Bool) (s : State) : State :=
  if s.phase = .starting then
    let s := blocksOnRelease encA encB (appendRestart (profileOnRelease readable s))
    { linksRestarted s with phase := .running }
  else s

end Sys2Proof.Machine
end

