-- ==== Sys2Proof/Machine/Frames.lean ====
section
/-! DEFINITION. The frames of a link (spec/10 section 10.2): select, the command byte, the bytes after it,
one at a time. -/

namespace Sys2Proof.Machine

/-! ## Select and the command byte (R162, R164) -/

/-- Select is asserted (R162): the Link Status byte is formed, to be shifted out while the first byte comes
in. While reset is held no frame begins, and the link ignores this select. -/
def assertSelect (k : Link) (s : State) : State :=
  if (s.link k).select = .released then
    if s.phase = .held then s.modLink k fun x => { x with select := .ignored }
    else s.modLink k fun x => { x with select := .waiting, dataOut := [statusByte s k] }
  else s

/-- What a command makes of the bytes that follow its command byte, and what the byte itself does. -/
abbrev Start := State → Shift × State

/-- The command byte completes and is a defined one (R160, R161, R164). On a running part the frame restarts
the Silence Timer or makes a SILENT link ACTIVE, and then the command starts; in STARTING only a HARD_RESET is
carried out, and every other command is refused BUSY without a record. -/
def startCommand (k : Link) (command : Byte) (start : Start) (s : State) : State :=
  let r : Shift × State :=
    if s.phase = .running then start (frameBegins k s)
    else (if command = 0x5A then .reset else .ignore, s)
  r.2.modLink k fun x => { x with select := .framing command r.1 }

/-- The command byte of an open frame completes: `none` where the bits of it end before (R162), otherwise the
byte. An undefined one is ignored, with whatever follows it. -/
def takeCommand (k : Link) (command : Option Byte) (start : Start) (s : State) : State :=
  if (s.link k).select = .waiting then
    match command with
    | none => s
    | some c =>
      if isDefinedCommand c then startCommand k c start s
      else s.modLink k fun x => { x with select := .framing c .ignore }
  else s

/-! ## How the commands start (R164 to R167) -/

/-- The link's Write FIFO is empty. -/
def State.fifoEmpty (s : State) (k : Link) : Bool := (s.link k).fifo.isEmpty

/-- A command that changes nothing at its command byte. -/
def startAs (use : Shift) : Start := fun s => (use, s)

/-- A refused command is recorded, and consumes its frame (R164, R169). -/
def refuseFrame (k : Link) (a : Addr) (r : Reason) : Start := fun s => (.ignore, s.refuse k a r 0)

/-- ACK_RESTART: a RESTARTED link becomes ACTIVE (R160, R164). -/
def startAckRestart (k : Link) : Start := fun s =>
  (.ignore, if (s.link k).state = .restarted then enterActive k s else s)

/-- SET_POINTER: refused BUSY while the link's own Write FIFO is not empty (R165). -/
def startSetPointer (k : Link) (read : Bool) : Start := fun s =>
  if s.fifoEmpty k then (.pointer read none, s) else refuseFrame k (s.link k).writePtr .busy s

/-- A READ command is refused BUSY while the link's own Write FIFO is not empty (R165). -/
def startRead (k : Link) (start : Start) : Start := fun s =>
  if s.fifoEmpty k then start s else refuseFrame k (s.link k).readPtr .busy s

/-- The addresses of a snapshot (R166): the record from the pointer's word to its end, then from its first
word. -/
def snapshotAddrs (a : Nat) : List Nat :=
  match recordAt a with
  | none => [a]
  | some (base, len) => (List.range len).map fun i => base + (a - base + i) % len

/-- The words of a snapshot of the record that contains the Read Pointer (R166). -/
def snapshot (s : State) (k : Link) : List Word :=
  (snapshotAddrs (s.link k).readPtr.toNat).map fun a => imageWord s k (BitVec.ofNat 10 a)

/-- The Read Pointer stands in the link's own Link record. -/
def inOwnRecord (s : State) (k : Link) : Bool :=
  recordAt (s.link k).readPtr.toNat == some (0x178 + 8 * linkIndex k, 8)

/-- REFUSAL, OVERRUN and MISSED clear together (R163, R166). -/
def clearFlags (k : Link) (s : State) : State :=
  s.modLink k fun x => { x with refusal := false, overrun := false, missed := false }

/-- READ_RECORD: the snapshot is taken, and then the flags clear if it is of the link's own record (R166). -/
def startReadRecord (k : Link) : Start := fun s =>
  (.record ((snapshot s k).flatMap bytesOfWord), if inOwnRecord s k then clearFlags k s else s)

/-- A WRITE command: refused LINK_RESTARTED before ACTIVE (R164). -/
def startWrite (k : Link) (inc : Bool) : Start := fun s =>
  if s.linkActive k then (.write inc none, s) else refuseFrame k (s.link k).writePtr .linkRestarted s

/-! ## Pointers (R165) -/

/-- The named pointer takes an address, or both do in SHARED mode (R165). -/
def LinkPort.setPointer (read : Bool) (a : Addr) (x : LinkPort) : LinkPort :=
  if x.split then (if read then { x with readPtr := a } else { x with writePtr := a })
  else { x with readPtr := a, writePtr := a }

/-- SET_POINTER's second address byte completes (R165). -/
def pointerCompletes (k : Link) (read : Bool) (a : Word) (s : State) : State :=
  if 0x3FF < a.toNat then s.refuse k (s.link k).writePtr .outOfRange 0
  else s.modLink k (·.setPointer read (a.setWidth 10))

/-- SET_MODE's byte completes (R165): SHARED 0, SPLIT 1. -/
def modeCompletes (k : Link) (m : Byte) (s : State) : State :=
  if m = 0 then s.modLink k fun x => { x with split := false, writePtr := x.readPtr }
  else if m = 1 then s.modLink k fun x => { x with split := true }
  else s.refuse k 0 .outOfRange 0

/-- The Read Pointer advances, with the Write Pointer in SHARED mode (R165). -/
def LinkPort.advanceRead (x : LinkPort) : LinkPort :=
  { x with readPtr := x.readPtr + 1, writePtr := if x.split then x.writePtr else x.writePtr + 1 }

/-- The Write Pointer advances, with the Read Pointer in SHARED mode (R165). -/
def LinkPort.advanceWrite (x : LinkPort) : LinkPort :=
  { x with writePtr := x.writePtr + 1, readPtr := if x.split then x.readPtr else x.readPtr + 1 }

/-! ## The bytes after the command byte (R162, R164 to R167) -/

/-- The word at the Read Pointer. -/
def readWord (s : State) (k : Link) : Word := imageWord s k (s.link k).readPtr

/-- One data word completes: it enters the FIFO, or is discarded with OVERRUN when 8 entries wait
(R167). -/
def LinkPort.push (inc : Bool) (x : LinkPort) (w : Word) : LinkPort :=
  if x.fifo.length < 8 then
    let y := { x with fifo := x.fifo ++ [(x.writePtr, w)] }
    if inc then y.advanceWrite else y
  else { x with overrun := true }

/-- One byte `b` is shifted in, and at the same time one out: the byte shifted out, what the bytes after it
are for, and what its completion does (R164 to R167). A READ takes its word whole as the word's first byte
begins, and READ_INC's pointer advances with the second. -/
def useByte (k : Link) (b : Byte) : Shift → State → Byte × Shift × State
  | .ignore, s | .reset, s => (0, .ignore, s)
  | .status, s => (statusByte s k, .status, s)
  | .pointer read none, s => (0, .pointer read (some b), s)
  | .pointer read (some hi), s => (0, .ignore, pointerCompletes k read (wordOfBytes hi b) s)
  | .mode, s => (0, .ignore, modeCompletes k b s)
  | .read inc none, s =>
    let w := readWord s k
    (w.extractLsb' 8 8, .read inc (some (w.extractLsb' 0 8)), s)
  | .read inc (some lo), s => (lo, .read inc none, if inc then s.modLink k (·.advanceRead) else s)
  | .record [], s => (0, .ignore, s)
  | .record (x :: rest), s => (x, .record rest, s)
  | .write inc none, s => (0, .write inc (some b), s)
  | .write inc (some hi), s => (0, .write inc none, s.modLink k (·.push inc (wordOfBytes hi b)))

/-- One byte of an open frame, its answer recorded in `dataOut` (log 16). -/
def shiftByte (k : Link) (s : State) (b : Byte) : State :=
  match (s.link k).select with
  | .framing command use =>
    let r := useByte k b use s
    r.2.2.modLink k fun x => { x with select := .framing command r.2.1, dataOut := x.dataOut ++ [r.1] }
  | .released | .waiting | .ignored => s

/-- Select is released (R162). A byte cut short is discarded; a HARD_RESET frame of exactly its one byte
makes its reset now (R164). -/
def releaseSelect (k : Link) (s : State) : State :=
  let t := s.modLink k fun x => { x with select := .released }
  match (s.link k).select with
  | .framing _ .reset => hardResetHeld (causeOf k) t
  | .framing _ _ | .released | .waiting | .ignored => t

/-! ## Parts of a frame (log 8) -/

/-- The part is possible as the select line stands: a beginning where no command byte has completed, a
continuation of the frame with this command byte or of a select that the link ignores. -/
def Select.admits (part : FramePart) (command : Option Byte) : Select → Bool
  | .released => part.begins
  | .waiting => part.begins || command.isNone
  | .framing c _ => !part.begins && command == some c
  | .ignored => !part.begins

/-- A part of a frame (R162; log 8): select is asserted and the command byte taken if it begins here, then the
bytes are shifted, and select is released if it ends here. A part that the select line does not admit has no
effect. -/
def framePart (f : Frame) (command : Option Byte) (start : Start) (bytes : List Byte) (s : State) : State :=
  if (s.link f.link).select.admits f.part command then
    let s := if f.part.begins then takeCommand f.link command start (assertSelect f.link s) else s
    let s := bytes.foldl (shiftByte f.link) s
    if f.part.ends then releaseSelect f.link s else s
  else s

/-- `n` bytes of 0. -/
def zeros (n : Nat) : List Byte := List.replicate n 0

/-- A part of a frame whose command byte is undefined, or incomplete where there is `none` (R162). -/
def invalidPart (f : Frame) : Option (Byte × Nat) → State → State
  | none, s => framePart f none (startAs .ignore) [] s
  | some (c, n), s => framePart f (some c) (startAs .ignore) (zeros n) s

end Sys2Proof.Machine
end

