-- ==== Sys2Proof/Machine/FrameCommands.lean ====
section
/-! DEFINITION. The meanings of the frames of a link (spec/10 section 10.2). -/

namespace Sys2Proof.Machine

/-- INVALID_FRAME (R162): ignored, its Link Status byte and the zeros after it apart. -/
def execInvalidFrame (f : Frame) (cmd : Option (Byte × Nat)) (s : State) : Host.Outcome State Fault Refusal :=
  .next (invalidPart f cmd s)

/-- STATUS (R164). -/
def execStatus (f : Frame) (n : Nat) (s : State) : Host.Outcome State Fault Refusal :=
  .next (framePart f (some 0x01) (startAs .status) (zeros n) s)

/-- ACK_RESTART (R160, R164). -/
def execAckRestart (f : Frame) (n : Nat) (s : State) : Host.Outcome State Fault Refusal :=
  .next (framePart f (some 0x02) (startAckRestart f.link) (zeros n) s)

/-- HARD_RESET (R164): with exactly its one byte a hard reset at the release of select, otherwise a valid
frame that does nothing. -/
def execHardReset (f : Frame) (n : Nat) (s : State) : Host.Outcome State Fault Refusal :=
  .next (framePart f (some 0x5A) (startAs .reset) (zeros n) s)

/-- SET_POINTER naming the read pointer (R165). -/
def execSetPointerRead (f : Frame) (bytes : List Byte) (s : State) : Host.Outcome State Fault Refusal :=
  .next (framePart f (some 0x10) (startSetPointer f.link true) bytes s)

/-- SET_POINTER naming the write pointer (R165). -/
def execSetPointerWrite (f : Frame) (bytes : List Byte) (s : State) : Host.Outcome State Fault Refusal :=
  .next (framePart f (some 0x11) (startSetPointer f.link false) bytes s)

/-- SET_MODE (R165). -/
def execSetMode (f : Frame) (bytes : List Byte) (s : State) : Host.Outcome State Fault Refusal :=
  .next (framePart f (some 0x12) (startAs .mode) bytes s)

/-- READ_INC (R165, R166). -/
def execReadInc (f : Frame) (n : Nat) (s : State) : Host.Outcome State Fault Refusal :=
  .next (framePart f (some 0x20) (startRead f.link (startAs (.read true none))) (zeros n) s)

/-- READ_FIXED (R165, R166). -/
def execReadFixed (f : Frame) (n : Nat) (s : State) : Host.Outcome State Fault Refusal :=
  .next (framePart f (some 0x21) (startRead f.link (startAs (.read false none))) (zeros n) s)

/-- READ_RECORD (R165, R166). -/
def execReadRecord (f : Frame) (n : Nat) (s : State) : Host.Outcome State Fault Refusal :=
  .next (framePart f (some 0x22) (startRead f.link (startReadRecord f.link)) (zeros n) s)

/-- WRITE_INC (R164, R167). -/
def execWriteInc (f : Frame) (bytes : List Byte) (s : State) : Host.Outcome State Fault Refusal :=
  .next (framePart f (some 0x30) (startWrite f.link true) bytes s)

/-- WRITE_FIXED (R164, R167). -/
def execWriteFixed (f : Frame) (bytes : List Byte) (s : State) : Host.Outcome State Fault Refusal :=
  .next (framePart f (some 0x31) (startWrite f.link false) bytes s)

end Sys2Proof.Machine
end

