-- ==== Sys2Proof/Machine/InputCommands.lean ====
section
/-! DEFINITION. The meanings of the input, capture and clock commands (spec/01). -/

namespace Sys2Proof.Machine

/-- INPUT_PIN_CHANGE (R1). -/
def execInputPinChange (input : InputId) (level : Bool) (s : State) : Host.Outcome State Fault Refusal :=
  .next (pinChanged input level s)

/-- DEBOUNCE_TIMER_EXPIRY (R1). -/
def execDebounceTimerExpiry (input : InputId) (s : State) : Host.Outcome State Fault Refusal :=
  .next (whenRunning (debounceExpired input) s)

/-- PULSE_RISING_EDGE (R3). The stamp is the part's own timebase value. -/
def execPulseRisingEdge (c : ChannelId) (_stamp : EdgeStamp) (s : State) : Host.Outcome State Fault Refusal :=
  .next (whenRunning (captureRise c) s)

/-- PULSE_FALLING_EDGE (R3, R5 to R14). The stamp is the part's own timebase value. -/
def execPulseFallingEdge (c : ChannelId) (_stamp : EdgeStamp) (s : State) : Host.Outcome State Fault Refusal :=
  .next (whenRunning (pulseFell c) s)

/-- SAMPLE_TIMER_EXPIRY (R13). -/
def execSampleTimerExpiry (c : ChannelId) (s : State) : Host.Outcome State Fault Refusal :=
  .next (whenRunning (sampleExpired c) s)

/-- WINDOW_TIMER_EXPIRY (R20). -/
def execWindowTimerExpiry (s : State) : Host.Outcome State Fault Refusal :=
  .next (whenRunning (windowExpired) s)

/-- STATION_CLOCK_SECOND (R20, R48, R182). -/
def execStationClockSecond (s : State) : Host.Outcome State Fault Refusal :=
  .next (clockSecond s)

end Sys2Proof.Machine
end

