-- ==== Sys2Proof/Machine/LampCommands.lean ====
section
/-! DEFINITION. The meanings of the lighting and signal commands (spec/04, spec/05). -/

namespace Sys2Proof.Machine

/-- LIGHTING_PERIOD_BOUNDARY (R71, R73, R83). -/
def execLightingPeriodBoundary (s : State) : Host.Outcome State Fault Refusal :=
  .next (whenRunning (lightingBoundary) s)

/-- LIGHTING_DWELL_TIMER_EXPIRY (R79). -/
def execLightingDwellTimerExpiry (s : State) : Host.Outcome State Fault Refusal :=
  .next (whenRunning (lightingDwellExpired) s)

/-- FLASH_CYCLE_WRAP (R88). -/
def execFlashCycleWrap (s : State) : Host.Outcome State Fault Refusal :=
  .next (whenRunning (flashWrap) s)

/-- CHECK_POSITION (R91 to R95). -/
def execCheckPosition (pos : Word) (sense : BitVec 8) (s : State) : Host.Outcome State Fault Refusal :=
  .next (whenRunning (positionReached pos sense) s)

end Sys2Proof.Machine
end

