-- ==== Sys2Proof/Machine/LinkCommands.lean ====
section
/-! DEFINITION. The meanings of the link timer and NV write commands (spec/10, spec/11). -/

namespace Sys2Proof.Machine

/-- The NV write in flight completes with its outcome (R179). -/
def nvCompletes (ok : Bool) (s : State) : State :=
  if s.profile.commit = .writing then (if ok then nvSuccess s else nvFailure s) else s

/-- SILENCE_TIMER_EXPIRY (R161). -/
def execSilenceTimerExpiry (k : Link) (s : State) : Host.Outcome State Fault Refusal :=
  .next (whenRunning (silenceExpired k) s)

/-- NV_WRITE_COMPLETE (R179): the end of the write in flight. -/
def execNvWriteComplete (ok : Bool) (s : State) : Host.Outcome State Fault Refusal :=
  .next (whenRunning (nvCompletes ok) s)

end Sys2Proof.Machine
end

