-- ==== Sys2Proof/Machine/LoadCommands.lean ====
section
/-! DEFINITION. The meanings of the load commands (spec/03). -/

namespace Sys2Proof.Machine

/-- SETTLE_TIMER_EXPIRY (R51). -/
def execSettleTimerExpiry (s : State) : Host.Outcome State Fault Refusal :=
  .next (whenRunning (settleExpired) s)

/-- STAGGER_TIMER_EXPIRY (R58). -/
def execStaggerTimerExpiry (s : State) : Host.Outcome State Fault Refusal :=
  .next (whenRunning (staggerExpired) s)

/-- HOLD_TIMER_EXPIRY (R68). -/
def execHoldTimerExpiry (s : State) : Host.Outcome State Fault Refusal :=
  .next (whenRunning (holdExpired) s)

/-- LOAD_EVALUATION (R54). -/
def execLoadEvaluation (s : State) : Host.Outcome State Fault Refusal :=
  .next (whenRunning (loadEvaluation) s)

end Sys2Proof.Machine
end

