-- ==== Sys2Proof/Machine/PumpCommands.lean ====
section
/-! DEFINITION. The meanings of the pump timer commands (spec/02). -/

namespace Sys2Proof.Machine

/-- START_PROOF_EXPIRY (R27). -/
def execStartProofExpiry (p : PumpId) (s : State) : Host.Outcome State Fault Refusal :=
  .next (whenRunning (startProofExpired p) s)

/-- MIN_RUN_EXPIRY (R28). -/
def execMinRunExpiry (p : PumpId) (s : State) : Host.Outcome State Fault Refusal :=
  .next (whenRunning (minRunExpired p) s)

/-- STOP_PROOF_EXPIRY (R30). -/
def execStopProofExpiry (p : PumpId) (s : State) : Host.Outcome State Fault Refusal :=
  .next (whenRunning (stopProofExpired p) s)

/-- MIN_REST_EXPIRY (R31). -/
def execMinRestExpiry (p : PumpId) (s : State) : Host.Outcome State Fault Refusal :=
  .next (whenRunning (minRestExpired p) s)

end Sys2Proof.Machine
end

