-- ==== Sys2Proof/Machine/ResetCommands.lean ====
section
/-! DEFINITION. The meanings of the reset commands: POWER_ON, RESET_PIN, RESET_RELEASE, START_UP_COMPLETE. -/

namespace Sys2Proof.Machine

/-- POWER_ON (R181, R182): outputs in their reset state, Start Histories cleared. -/
def execPowerOn (s : State) : Host.Outcome State Fault Refusal :=
  .next (powerOnHeld s)

/-- RESET_PIN (R181, R182): a hard reset is held. -/
def execResetPin (s : State) : Host.Outcome State Fault Refusal :=
  .next (hardResetHeld .resetPin s)

/-- RESET_RELEASE (R181): links STARTING, Event Queue emptied, NV check begun. -/
def execResetRelease (s : State) : Host.Outcome State Fault Refusal :=
  .next (releaseReset s)

/-- START_UP_COMPLETE (R181): profile chosen, RESTART appended, every block at reset release, links
RESTARTED. -/
def execStartUpComplete (nvReadable : Bool) (encA : Bool) (encB : Bool) (s : State) : Host.Outcome State Fault Refusal :=
  .next (startUpEnds nvReadable encA encB s)

end Sys2Proof.Machine
end

