-- ==== Sys2Proof/Machine/RoadCommands.lean ====
section
/-! DEFINITION. The meanings of the road timer commands (spec/08). -/

namespace Sys2Proof.Machine

/-- CONFIRM_TIMER_EXPIRY (R129). -/
def execConfirmTimerExpiry (s : State) : Host.Outcome State Fault Refusal :=
  .next (whenRunning (confirmExpired) s)

/-- ALERT_TIMER_EXPIRY (R132). -/
def execAlertTimerExpiry (s : State) : Host.Outcome State Fault Refusal :=
  .next (whenRunning (alertExpired) s)

/-- CLEARANCE_TIMER_EXPIRY (R133, R136). -/
def execClearanceTimerExpiry (s : State) : Host.Outcome State Fault Refusal :=
  .next (whenRunning (clearanceExpired) s)

/-- CLEAR_WAIT_TIMER_EXPIRY (R135). -/
def execClearWaitTimerExpiry (b : Barrier) (s : State) : Host.Outcome State Fault Refusal :=
  .next (whenRunning (clearWaitExpired b) s)

end Sys2Proof.Machine
end

