-- ==== Sys2Proof/Machine/WordCommands.lean ====
section
/-! DEFINITION. The meanings of the words that the Image Port applies (spec/09 to spec/12). -/

namespace Sys2Proof.Machine

/-- READ_ONLY_OR_UNMAPPED_WRITE (R184). -/
def execReadOnlyOrUnmappedWrite (k : Link) (addr : Addr) (value : Word) (s : State) : Host.Outcome State Fault Refusal :=
  .next (portApply k addr value (applyOther k addr value) s)

/-- TAKE (R149). -/
def execTake (k : Link) (u : UnitId) (s : State) : Host.Outcome State Fault Refusal :=
  .next (portApply k (authorityAddr u) 1 (applyTake k u) s)

/-- RELEASE (R150). -/
def execRelease (k : Link) (u : UnitId) (s : State) : Host.Outcome State Fault Refusal :=
  .next (portApply k (authorityAddr u) 2 (applyRelease k u) s)

/-- PUMP_DEMAND_RUN (R25, R153). -/
def execPumpDemandRun (k : Link) (p : PumpId) (s : State) : Host.Outcome State Fault Refusal :=
  .next (portApply k (pumpDemandAddr p) 1 (applyPumpDemand k p true) s)

/-- PUMP_DEMAND_STOP (R25, R153). -/
def execPumpDemandStop (k : Link) (p : PumpId) (s : State) : Host.Outcome State Fault Refusal :=
  .next (portApply k (pumpDemandAddr p) 0 (applyPumpDemand k p false) s)

/-- ACTION_HOLD (R123). -/
def execActionHold (k : Link) (s : State) : Host.Outcome State Fault Refusal :=
  .next (portApply k 0x14C 0 (applyAction k .hold) s)

/-- ACTION_OPEN (R123). -/
def execActionOpen (k : Link) (s : State) : Host.Outcome State Fault Refusal :=
  .next (portApply k 0x14C 1 (applyAction k .open) s)

/-- ACTION_CLOSED (R123). -/
def execActionClosed (k : Link) (s : State) : Host.Outcome State Fault Refusal :=
  .next (portApply k 0x14C 2 (applyAction k .closed) s)

/-- ACTION_POSITION (R123). -/
def execActionPosition (k : Link) (s : State) : Host.Outcome State Fault Refusal :=
  .next (portApply k 0x14C 3 (applyAction k .position) s)

/-- POSITION_WORD (R123). -/
def execPositionWord (k : Link) (value : Word) (s : State) : Host.Outcome State Fault Refusal :=
  .next (portApply k 0x14D value (applyPosition k value) s)

/-- ROAD_DEMAND_NONE (R141). -/
def execRoadDemandNone (k : Link) (s : State) : Host.Outcome State Fault Refusal :=
  .next (portApply k 0x14E 0 (applyRoad k .none) s)

/-- CLOSE (R141). -/
def execClose (k : Link) (s : State) : Host.Outcome State Fault Refusal :=
  .next (portApply k 0x14E 1 (applyRoad k .close) s)

/-- REOPEN (R139). -/
def execReopen (k : Link) (s : State) : Host.Outcome State Fault Refusal :=
  .next (portApply k 0x14E 2 (applyRoad k .reopen) s)

/-- RESUME (R137). -/
def execResume (k : Link) (s : State) : Host.Outcome State Fault Refusal :=
  .next (portApply k 0x14E 3 (applyRoad k .resume) s)

/-- MODE_FOLLOW_STAGE (R76). -/
def execModeFollowStage (k : Link) (s : State) : Host.Outcome State Fault Refusal :=
  .next (portApply k 0x150 0 (applyMode k false) s)

/-- MODE_FIXED (R76). -/
def execModeFixed (k : Link) (s : State) : Host.Outcome State Fault Refusal :=
  .next (portApply k 0x150 1 (applyMode k true) s)

/-- DUTY_WORD (R76). -/
def execDutyWord (k : Link) (g : GroupId) (value : Word) (s : State) : Host.Outcome State Fault Refusal :=
  .next (portApply k (dutyAddr g) value (applyDuty k g value) s)

/-- CLEAR (R156). -/
def execClear (k : Link) (u : UnitId) (s : State) : Host.Outcome State Fault Refusal :=
  .next (portApply k (faultClearAddr u) 1 (applyClear k u) s)

/-- EVENT_ACKNOWLEDGE (R172). -/
def execEventAcknowledge (k : Link) (seq : Word) (s : State) : Host.Outcome State Fault Refusal :=
  .next (portApply k 0x196 seq (applyAck k seq) s)

/-- OPEN_EDIT (R177). -/
def execOpenEdit (k : Link) (s : State) : Host.Outcome State Fault Refusal :=
  .next (portApply k 0x1A0 1 (applyOpenEdit k) s)

/-- ABANDON (R177). -/
def execAbandon (k : Link) (s : State) : Host.Outcome State Fault Refusal :=
  .next (portApply k 0x1A0 2 (applyAbandon k) s)

/-- COMMIT (R177, R178). -/
def execCommit (k : Link) (s : State) : Host.Outcome State Fault Refusal :=
  .next (portApply k 0x1A0 3 (applyCommit k) s)

/-- STAGING_WORD (R177). -/
def execStagingWord (k : Link) (offset : BitVec 8) (value : Word) (s : State) : Host.Outcome State Fault Refusal :=
  .next (portApply k (stagingAddr offset) value (applyStaging k offset value) s)

end Sys2Proof.Machine
end

