-- ==== Sys2Proof/Machine/Dispatch.lean ====
section
/-! DEFINITION. One arm per command. -/

namespace Sys2Proof.Machine

/-- What a command does to the part, its queue apart. -/
def exec (i : Instr) (s : State) : Host.Outcome State Fault Refusal :=
  match i with
  | .powerOn => Sys2Proof.Machine.execPowerOn s
  | .resetPin => Sys2Proof.Machine.execResetPin s
  | .resetRelease => Sys2Proof.Machine.execResetRelease s
  | .startUpComplete nvReadable encA encB => Sys2Proof.Machine.execStartUpComplete nvReadable encA encB s
  | .inputPinChange input level => Sys2Proof.Machine.execInputPinChange input level s
  | .debounceTimerExpiry input => Sys2Proof.Machine.execDebounceTimerExpiry input s
  | .pulseRisingEdge c stamp => Sys2Proof.Machine.execPulseRisingEdge c stamp s
  | .pulseFallingEdge c stamp => Sys2Proof.Machine.execPulseFallingEdge c stamp s
  | .sampleTimerExpiry c => Sys2Proof.Machine.execSampleTimerExpiry c s
  | .windowTimerExpiry => Sys2Proof.Machine.execWindowTimerExpiry s
  | .stationClockSecond => Sys2Proof.Machine.execStationClockSecond s
  | .startProofExpiry p => Sys2Proof.Machine.execStartProofExpiry p s
  | .minRunExpiry p => Sys2Proof.Machine.execMinRunExpiry p s
  | .stopProofExpiry p => Sys2Proof.Machine.execStopProofExpiry p s
  | .minRestExpiry p => Sys2Proof.Machine.execMinRestExpiry p s
  | .settleTimerExpiry => Sys2Proof.Machine.execSettleTimerExpiry s
  | .staggerTimerExpiry => Sys2Proof.Machine.execStaggerTimerExpiry s
  | .holdTimerExpiry => Sys2Proof.Machine.execHoldTimerExpiry s
  | .loadEvaluation => Sys2Proof.Machine.execLoadEvaluation s
  | .lightingPeriodBoundary => Sys2Proof.Machine.execLightingPeriodBoundary s
  | .lightingDwellTimerExpiry => Sys2Proof.Machine.execLightingDwellTimerExpiry s
  | .flashCycleWrap => Sys2Proof.Machine.execFlashCycleWrap s
  | .checkPosition pos sense => Sys2Proof.Machine.execCheckPosition pos sense s
  | .dwellTimerExpiry d => Sys2Proof.Machine.execDwellTimerExpiry d s
  | .travelTimerExpiry d => Sys2Proof.Machine.execTravelTimerExpiry d s
  | .stallTimerExpiry => Sys2Proof.Machine.execStallTimerExpiry s
  | .acceptedEdge e => Sys2Proof.Machine.execAcceptedEdge e s
  | .doubleTransition => Sys2Proof.Machine.execDoubleTransition s
  | .openDelayTimerExpiry => Sys2Proof.Machine.execOpenDelayTimerExpiry s
  | .confirmTimerExpiry => Sys2Proof.Machine.execConfirmTimerExpiry s
  | .alertTimerExpiry => Sys2Proof.Machine.execAlertTimerExpiry s
  | .clearanceTimerExpiry => Sys2Proof.Machine.execClearanceTimerExpiry s
  | .clearWaitTimerExpiry b => Sys2Proof.Machine.execClearWaitTimerExpiry b s
  | .silenceTimerExpiry k => Sys2Proof.Machine.execSilenceTimerExpiry k s
  | .nvWriteComplete ok => Sys2Proof.Machine.execNvWriteComplete ok s
  | .invalidFrame f cmd => Sys2Proof.Machine.execInvalidFrame f cmd s
  | .status f n => Sys2Proof.Machine.execStatus f n s
  | .ackRestart f n => Sys2Proof.Machine.execAckRestart f n s
  | .hardReset f n => Sys2Proof.Machine.execHardReset f n s
  | .setPointerRead f bytes => Sys2Proof.Machine.execSetPointerRead f bytes s
  | .setPointerWrite f bytes => Sys2Proof.Machine.execSetPointerWrite f bytes s
  | .setMode f bytes => Sys2Proof.Machine.execSetMode f bytes s
  | .readInc f n => Sys2Proof.Machine.execReadInc f n s
  | .readFixed f n => Sys2Proof.Machine.execReadFixed f n s
  | .readRecord f n => Sys2Proof.Machine.execReadRecord f n s
  | .writeInc f bytes => Sys2Proof.Machine.execWriteInc f bytes s
  | .writeFixed f bytes => Sys2Proof.Machine.execWriteFixed f bytes s
  | .readOnlyOrUnmappedWrite k addr value => Sys2Proof.Machine.execReadOnlyOrUnmappedWrite k addr value s
  | .take k u => Sys2Proof.Machine.execTake k u s
  | .release k u => Sys2Proof.Machine.execRelease k u s
  | .pumpDemandRun k p => Sys2Proof.Machine.execPumpDemandRun k p s
  | .pumpDemandStop k p => Sys2Proof.Machine.execPumpDemandStop k p s
  | .actionHold k => Sys2Proof.Machine.execActionHold k s
  | .actionOpen k => Sys2Proof.Machine.execActionOpen k s
  | .actionClosed k => Sys2Proof.Machine.execActionClosed k s
  | .actionPosition k => Sys2Proof.Machine.execActionPosition k s
  | .positionWord k value => Sys2Proof.Machine.execPositionWord k value s
  | .roadDemandNone k => Sys2Proof.Machine.execRoadDemandNone k s
  | .close k => Sys2Proof.Machine.execClose k s
  | .reopen k => Sys2Proof.Machine.execReopen k s
  | .resume k => Sys2Proof.Machine.execResume k s
  | .modeFollowStage k => Sys2Proof.Machine.execModeFollowStage k s
  | .modeFixed k => Sys2Proof.Machine.execModeFixed k s
  | .dutyWord k g value => Sys2Proof.Machine.execDutyWord k g value s
  | .clear k u => Sys2Proof.Machine.execClear k u s
  | .eventAcknowledge k seq => Sys2Proof.Machine.execEventAcknowledge k seq s
  | .openEdit k => Sys2Proof.Machine.execOpenEdit k s
  | .abandon k => Sys2Proof.Machine.execAbandon k s
  | .commit k => Sys2Proof.Machine.execCommit k s
  | .stagingWord k offset value => Sys2Proof.Machine.execStagingWord k offset value s

end Sys2Proof.Machine
end

