-- ==== Sys2Proof/Machine/Time.lean ====
section
/-! DEFINITION. What the part does of itself when no command waits (log 2): it takes something that is
due, or one microsecond passes. -/

namespace Sys2Proof.Machine

/-! ## What is due -/

/-- A command if its timer has reached zero. -/
def dueIf (t : Timer) (c : Instr) : List Instr := if t.isDue then [c] else []

/-- The expiry of a pump's timer by its State (R24). -/
def pumpDue (s : State) (p : PumpId) : List Instr :=
  let t := (s.pump p).timer
  match (s.pump p).state with
  | .starting => dueIf t (.startProofExpiry p)
  | .running => dueIf t (.minRunExpiry p)
  | .stopping => dueIf t (.stopProofExpiry p)
  | .resting => dueIf t (.minRestExpiry p)
  | .idle | .queued | .faulted => []

/-- The expiries of a drive. -/
def driveDue (s : State) (d : DriveId) : List Instr :=
  dueIf (s.drive d).dwell (.dwellTimerExpiry d) ++ dueIf (s.drive d).travel (.travelTimerExpiry d)

/-- Every expiry that is due. -/
def dueTimers (s : State) : List Instr :=
  allInputs.flatMap (fun i => dueIf (s.inputs.get i).timer (.debounceTimerExpiry i))
    ++ allChannels.flatMap (fun c => dueIf (s.channel c).sampleTimer (.sampleTimerExpiry c))
    ++ dueIf s.sump.windowTimer .windowTimerExpiry
    ++ allPumps.flatMap (pumpDue s)
    ++ dueIf s.load.settle .settleTimerExpiry ++ dueIf s.load.stagger .staggerTimerExpiry
    ++ dueIf s.load.hold .holdTimerExpiry
    ++ dueIf s.lighting.dwell .lightingDwellTimerExpiry
    ++ [DriveId.barrier .one, .barrier .two, .penstock].flatMap (driveDue s)
    ++ dueIf s.gates.stem.stall .stallTimerExpiry
    ++ dueIf s.penstock.openDelay .openDelayTimerExpiry
    ++ dueIf s.closure.confirm .confirmTimerExpiry ++ dueIf s.closure.alert .alertTimerExpiry
    ++ dueIf s.closure.clearance .clearanceTimerExpiry
    ++ dueIf s.closure.clearWait1 (.clearWaitTimerExpiry .one)
    ++ dueIf s.closure.clearWait2 (.clearWaitTimerExpiry .two)
    ++ dueIf s.linkA.silence (.silenceTimerExpiry .a) ++ dueIf s.linkB.silence (.silenceTimerExpiry .b)

/-- The application of a link's oldest waiting word (R168). -/
def fifoDue (s : State) (k : Link) : List Instr :=
  match (s.link k).fifo with
  | [] => []
  | e :: _ => [rowOfWord k e.1 e.2]

/-- What waits without a bound in time: a load evaluation (R54) and the words of the FIFOs (R168). -/
def dueWork (s : State) : List Instr :=
  (if s.load.evalDue then [.loadEvaluation] else []) ++ fifoDue s .a ++ fifoDue s .b

/-! ## One microsecond -/

/-- Every 10 ms timer of the part counts one step. -/
def tickTimers (s : State) : State :=
  let s := allInputs.foldl
    (fun s i => s.modInputs fun t => t.put i { t.get i with timer := (t.get i).timer.tick }) s
  let s := allChannels.foldl
    (fun s c => s.modChannel c fun x => { x with sampleTimer := x.sampleTimer.tick }) s
  let s := allPumps.foldl (fun s p => s.modPump p fun x => { x with timer := x.timer.tick }) s
  let s := [DriveId.barrier .one, .barrier .two, .penstock].foldl
    (fun s d => s.modDrive d fun x => { x with dwell := x.dwell.tick, travel := x.travel.tick }) s
  let s := s.modLoad fun x =>
    { x with settle := x.settle.tick, stagger := x.stagger.tick, hold := x.hold.tick }
  let s := s.modLighting fun x => { x with dwell := x.dwell.tick }
  let s := s.modStem fun x => { x with stall := x.stall.tick }
  let s := s.modPenstock fun x => { x with openDelay := x.openDelay.tick }
  let s := s.modClosure fun x =>
    { x with confirm := x.confirm.tick, alert := x.alert.tick, clearance := x.clearance.tick,
             clearWait1 := x.clearWait1.tick, clearWait2 := x.clearWait2.tick }
  let s := s.modLink .a fun x => { x with silence := x.silence.tick }
  s.modLink .b fun x => { x with silence := x.silence.tick }

/-- The Lighting Period counter counts one microsecond, or its boundary is to be taken (R71). -/
def countLighting (s : State) : State × List Instr :=
  if s.lighting.counter + 1 < s.lighting.periodInUse then
    (s.modLighting fun x => { x with counter := x.counter + 1 }, [])
  else (s, [.lightingPeriodBoundary])

/-- The check that the counter's new position brings, with levels of the current-sense inputs that come
from outside (R91). -/
def checkHere (s : State) : List Instr :=
  if allSignals.any (checkDue s s.signals.position) then
    [.checkPosition (BitVec.ofNat 16 s.signals.position) (Config.senseLevels s.choices)]
  else []

/-- The Flash Cycle counter counts one millisecond, or its wrap is to be taken (R88). -/
def countFlash (s : State) : State × List Instr :=
  if s.signals.position + 1 < s.signals.periodInUse then
    let s := s.modSignals fun x => { x with position := x.position + 1 }
    ({ s with choices := s.choices + 1 }, checkHere s)
  else (s, [.flashCycleWrap])

/-- One microsecond of a running part: its free-running counters, and the commands that this instant
brings. -/
def passTime (s : State) : State :=
  let n := s.subSecond + 1
  let s : State := { s with subSecond := n, timebase := s.timebase + 1 }
  let (s, c1) := countLighting s
  let (s, c2) := if n % 1000 = 0 then countFlash s else (s, [])
  let s := if n % 10000 = 0 then tickTimers s else s
  let c3 := if n = 1000000 then [Instr.stationClockSecond] else []
  { s with pending := c1 ++ c2 ++ c3 }

/-- One microsecond while reset is held or start-up runs: the capture timebase counts, a held power-on
included (R3; DESIGN CHOICE, log 2), and the Station Clock where it runs (R182). -/
def passHeld (s : State) : State :=
  let s : State := { s with timebase := s.timebase + 1 }
  if clockRuns s then
    let n := s.subSecond + 1
    { s with subSecond := n, pending := if n = 1000000 then [.stationClockSecond] else [] }
  else s

/-- Put one of the commands in the queue, as a free value chooses; past the list's end, time passes. -/
def takeOne (options : Nat) (cs : List Instr) (s : State) : State :=
  let s' : State := { s with choices := s.choices + 1 }
  match cs[Config.nextDue s.choices % options]? with
  | some c => { s' with pending := [c] }
  | none => passTime s'

/-- The part with no command waiting (log 2): an expiry that is due is taken before time passes; work
without a bound may be taken now or later. -/
def idle (s : State) : State :=
  if s.phase = .running then
    let timers := dueTimers s
    let all := timers ++ dueWork s
    if all.isEmpty then passTime s
    else if timers.isEmpty then takeOne (all.length + 1) all s
    else takeOne all.length all s
  else passHeld s

end Sys2Proof.Machine
end

