-- ==== Sys2Proof/Machine/Outputs.lean ====
section
/-! DEFINITION. The output lines of the part: run lines (R24), motor lines (R98), lamp group outputs (R72),
signal outputs (R89), and their state while reset is held and through start-up (R181). -/

namespace Sys2Proof.Machine

/-- A pump's run line is on (R24, R181). -/
def runLine (s : State) (p : PumpId) : Bool := s.phase == .running && (s.pump p).isOn

/-- A drive's up line is on (R98, R181). -/
def upLine (s : State) (d : DriveId) : Bool := s.phase == .running && (s.drive d).state == .drivingUp

/-- A drive's down line is on (R98, R181). -/
def downLine (s : State) (d : DriveId) : Bool := s.phase == .running && (s.drive d).state == .drivingDown

/-- A group's on-time (R72). -/
def onTime (s : State) (g : GroupId) : Nat := s.lighting.periodInUse * (s.group g).applied / 1000

/-- A group's start position (R72). -/
def startPosition (s : State) (g : GroupId) : Nat := s.lighting.periodInUse * (s.group g).offset / 1000

/-- The group's output is lit at a position of the counter by its duty and offset (R72): the distance from
the start position, modulo the period, is less than the on-time. -/
def lampLitAt (s : State) (g : GroupId) (pos : Nat) : Bool :=
  decide ((pos + s.lighting.periodInUse - startPosition s g) % s.lighting.periodInUse < onTime s g)

/-- A lamp group's output is lit (R72, R181): dark in driver fault or under Dark Hold, lit while reset is
held. -/
def lampOutput (s : State) (g : GroupId) : Bool :=
  if s.phase = .running then
    !(s.group g).inFault && !(s.group g).darkHold && lampLitAt s g s.lighting.counter
  else true

/-- A signal channel's output is lit (R89, R181): dark while reset is held. -/
def signalOutput (s : State) (n : SignalId) : Bool :=
  s.phase == .running && litAt (s.displayed n) s.signals.periodInUse s.signals.position

end Sys2Proof.Machine
end

