-- ==== Sys2Proof/Safety.lean ====
section
/-! DEFINITION. What counts as a safe run: the conditions that the spec says hold throughout, as predicates
of State; and the words in which the statements say what a command leaves alone. -/

namespace Sys2Proof.Machine

/-- The Event Queue holds at most 32 entries and no link's unread count exceeds the entries held (R170). -/
def EventsBounded (s : State) : Prop :=
  s.events.entries.length ≤ 32 ∧
    ∀ k n, (s.link k).unread = some n → n ≤ s.events.entries.length

/-- A link has an Event Cursor exactly while it is ACTIVE (10.1, R160), and both links are STARTING while
start-up runs (R181). -/
def CursorsKept (s : State) : Prop :=
  ∀ k, ((s.link k).unread.isSome = true ↔ (s.link k).state = .active) ∧
    (s.phase = .starting → (s.link k).state = .starting)

/-- On a running part, a unit is under HAND exactly while its key is local, and a link holds a unit only
while it is ACTIVE and the Active Profile is SITE (R145). -/
def AuthorityKept (s : State) : Prop :=
  s.phase = .running →
    ∀ u, (s.authorityOf u = .hand ↔ s.keyLocal u = true) ∧
      ∀ k, s.authorityOf u = .link k → (s.link k).state = .active ∧ s.profile.site = true

/-- On a running part, every entry of the Start Queue is a QUEUED pump's, and while the DRY float reports
dry no pump is QUEUED, STARTING or RUNNING (R25, R34, R55). -/
def DrySafe (s : State) : Prop :=
  s.phase = .running →
    (∀ e, e ∈ s.load.queue → (s.pump e.pump).state = .queued) ∧
      (s.level (.float .dry) = false →
        ∀ p, (s.pump p).isOn = false ∧ (s.pump p).state ≠ .queued)

/-- At most one pump is in STARTING (R57). -/
def OneStart (s : State) : Prop :=
  ∀ p q, (s.pump p).state = .starting → (s.pump q).state = .starting → p = q

/-- Every pump in STARTING or RUNNING is in the Grant Order (R57). -/
def GrantOrderHolds (s : State) : Prop := ∀ p, (s.pump p).isOn = true → p ∈ s.load.grantOrder

/-- A barrier drives downward only under its Down Permit, and the permit stands only in LOWERING with Red
Proven for the barrier's approach (R107). -/
def BarriersGuarded (s : State) : Prop :=
  ∀ b, ((s.drive (.barrier b)).state = .drivingDown → (s.drive (.barrier b)).permit = true) ∧
    ((s.drive (.barrier b)).permit = true → s.closure.state = .lowering ∧ s.redProven b = true)

/-- The Duty Rotation holds each pump at most once (R46). -/
def RotationOnce (s : State) : Prop := s.rotation.Nodup

/-- Fields stay in the ranges their tables give: Write FIFOs of at most 8 entries (10.1), the Position Count
(6.1), the demanded Position and duties (9.4); Halt Cause is NONE in every state but HALTED (8.1); a write in
flight stands over an invalidated NV copy (R179). -/
def FieldsInRange (s : State) : Prop :=
  (∀ k, (s.link k).fifo.length ≤ 8) ∧
    s.gates.stem.count ≤ 65535 ∧
    s.authority.demands.position ≤ 1000 ∧
    (∀ g : GroupId, s.authority.demands.duties[g] ≤ 1000) ∧
    (s.closure.state ≠ .halted → s.closure.halt = .none) ∧
    (s.profile.commit = .writing → s.profile.nvCrc = none)

/-- Red Proven of each approach is what the Proof States of its red channels give (R95). -/
def RedDerived (s : State) : Prop :=
  s.signals.redProven1 = (s.proven 0 || s.proven 1) ∧ s.signals.redProven2 = (s.proven 3 || s.proven 4)

/-- Only a validated profile comes into force (R176, R178, R179): the Active Profile is the BUILTIN one or
has passed validation, as have an NV copy with a stored CRC and the staging words of a write in flight. -/
def ProfileSound (s : State) : Prop :=
  (if s.profile.site then validate s.prof = none else s.prof = builtinWords) ∧
    (s.profile.nvCrc ≠ none → validate s.profile.nvWords = none) ∧
    (s.profile.commit = .writing → validate s.profile.staging = none)

/-- All of the conditions of this file together. -/
def Safe (s : State) : Prop :=
  EventsBounded s ∧ CursorsKept s ∧ AuthorityKept s ∧ DrySafe s ∧ OneStart s ∧ GrantOrderHolds s ∧
    BarriersGuarded s ∧ RedDerived s ∧ RotationOnce s ∧ FieldsInRange s ∧ ProfileSound s

/-! ## What a command leaves alone -/

/-- The blocks that commands change, the links and the Event Queue apart (00 section 3.1). -/
inductive Block where
  | inputs
  | channels
  | sump
  | pumps
  | load
  | lighting
  | signals
  | gates
  | penstock
  | closure
  | authority
  | profile
  deriving DecidableEq, Repr

/-- `s` with the listed blocks blanked; PUMPS stands for the Pump Records, the Stage Calls and the Duty
Rotation together. -/
def State.sans (bs : List Block) (s : State) : State :=
  { s with
    inputs := if .inputs ∈ bs then State.reset.inputs else s.inputs
    channels := if .channels ∈ bs then State.reset.channels else s.channels
    sump := if .sump ∈ bs then State.reset.sump else s.sump
    pumps := if .pumps ∈ bs then State.reset.pumps else s.pumps
    stages := if .pumps ∈ bs then State.reset.stages else s.stages
    rotation := if .pumps ∈ bs then State.reset.rotation else s.rotation
    load := if .load ∈ bs then State.reset.load else s.load
    lighting := if .lighting ∈ bs then State.reset.lighting else s.lighting
    signals := if .signals ∈ bs then State.reset.signals else s.signals
    gates := if .gates ∈ bs then State.reset.gates else s.gates
    penstock := if .penstock ∈ bs then State.reset.penstock else s.penstock
    closure := if .closure ∈ bs then State.reset.closure else s.closure
    authority := if .authority ∈ bs then State.reset.authority else s.authority
    profile := if .profile ∈ bs then State.reset.profile else s.profile }

/-- A report that a block appends: kind, Subject and Detail. -/
abbrev Report := EventKind × Nat × Nat

/-- Append reports one after another (R170). -/
def State.appendAll (es : List Report) (s : State) : State :=
  es.foldl (fun x e => x.append e.1 e.2.1 e.2.2) s

/-- `t` is `s` with exactly the reports `es` appended, but for the listed blocks. Everything else is as
it was: every other block, both links but for their unread counts and MISSED flags, the clocks, the phase,
the waiting commands. -/
def Changes (bs : List Block) (es : List Report) (s t : State) : Prop :=
  t.sans bs = (s.appendAll es).sans bs

/-- `t` is `s` with some reports appended, but for the listed blocks. -/
def Touches (bs : List Block) (s t : State) : Prop := ∃ es, Changes bs es s t

/-- Every block that acts on the plant by the profile in force. -/
def plantBlocks : List Block :=
  [.pumps, .load, .lighting, .signals, .gates, .penstock, .closure, .authority]

/-- The blocks that act when a unit's authority or demand changes or a clear for it is accepted, and the
Authority Table itself (R148, R153, R156). -/
def unitBlocks : UnitId → List Block
  | .pump _ => [.pumps, .load, .authority]
  | .penstock => [.gates, .penstock, .authority]
  | .road => [.signals, .gates, .closure, .authority]
  | .lighting => [.lighting, .load, .authority]

/-- The link and part, and the number of bytes after the command byte, of a row that is a valid frame
(R162). -/
def frameOf : Instr → Option (Frame × Nat)
  | .status f n | .ackRestart f n | .hardReset f n | .readInc f n | .readFixed f n | .readRecord f n =>
    some (f, n)
  | .setPointerRead f bytes | .setPointerWrite f bytes | .setMode f bytes | .writeInc f bytes
  | .writeFixed f bytes => some (f, bytes.length)
  | _ => none

/-- The command `i` applies the word (`a`, `v`) of link `k` with the outcome `Q`, on a running part: as
it comes while the FIFO is empty, and from the FIFO's front, which the entry then leaves (R168). -/
def Applies (i : Instr) (k : Link) (a : Addr) (v : Word) (s : State) (Q : State → Prop) : Prop :=
  s.phase = .running →
    ((s.link k).fifo = [] → ∃ t, exec i s = .next t ∧ Q t) ∧
    (∀ rest, (s.link k).fifo = (a, v) :: rest →
      ∃ t, exec i s = .next (t.modLink k fun x => { x with fifo := x.fifo.drop 1 }) ∧ Q t)

end Sys2Proof.Machine
end

