-- ==== Sys2Proof/WellFormed.lean ====
section
/-! DEFINITION. Which commands are well formed. Indices are bounded by their types; three rows carry
an operand that can name something the row does not stand for. -/

namespace Sys2Proof

/-- A command is well formed when its operands are of the kind its row stands for: an invalid frame's
byte is no defined command (R162), a check position lies within the longest Flash Cycle (R88, 5.2), and a word of
READ_ONLY_OR_UNMAPPED_WRITE is named by no other row (R184). -/
def Instr.wellFormed : Instr → Bool
  | .invalidFrame _ (some (c, _)) => !isDefinedCommand c
  | .checkPosition pos _ => decide (pos.toNat < 2000)
  | .readOnlyOrUnmappedWrite k a v => decide (rowOfWord k a v = .readOnlyOrUnmappedWrite k a v)
  | _ => true

end Sys2Proof
end

