-- ==== Sys2Proof/Certificates/Slice0/Obligations.lean ====
section
/-! DEFINITION. The statements for the provers. Each docstring names the rules of spec/ a statement rests
on; "the model's choice" marks what rests on a log entry. Four choices stand under many of them: a timer's
expiry command acts whenever that timer runs (log 2); a word is applied as it comes while its link's FIFO is
empty, and from the FIFO's front otherwise (`Applies`, log 7); a load evaluation that a rule starts at once is
marked due (`evalDue`, log 5) and carried out by LOAD_EVALUATION; and a frame given whole is one moment, one given
in parts acts byte by byte as its parts come (log 8). The invariants under "The whole machine"
conclude one part of `Safe` each; together they say that every step keeps `Safe`. -/

open Sys2Proof Sys2Proof.Machine

/-! ## The whole machine -/

/-- The HAND entries form an unbroken run at the front of a Start Queue (R55). -/
def handsFirst (q : List QueueEntry) : Prop :=
  (q.filter fun x => x.source == .hand) ++ (q.filter fun x => x.source != .hand) = q

/-- The state right after reset is safe: it meets every condition of Safety.lean, and its Start Queue, being
empty, has its HAND entries in front (R55). Its values that the spec does not give are the model's choice,
log 1. -/
def Obligations.ResetSafe : Prop := Safe State.reset ∧ handsFirst State.reset.load.queue

/-- R170: no step takes the Event Queue above 32 entries or a link's unread count above the entries held. -/
def Obligations.EventsBoundedKept : Prop :=
  ∀ (s t : State), Safe s → step s = .next t → EventsBounded t

/-- R145: on a running part, every step leaves each unit under HAND exactly while its key is local, and
leaves a link's unit with a link that is ACTIVE under a SITE profile. -/
def Obligations.AuthorityKeptByStep : Prop :=
  ∀ (s t : State), Safe s → step s = .next t → AuthorityKept t

/-- R34, R25, R55: on a running part, after every step no pump is QUEUED, STARTING or RUNNING while the DRY
float reports dry, and the Start Queue holds QUEUED pumps only; and every step keeps the HAND entries of the
Start Queue in an unbroken run at its front. -/
def Obligations.DrySafeKept : Prop :=
  ∀ (s t : State), Safe s → step s = .next t →
    DrySafe t ∧ (handsFirst s.load.queue → handsFirst t.load.queue)

/-- R57: after every step at most one pump is in STARTING, and every pump in STARTING or RUNNING is in the
Grant Order. -/
def Obligations.OneStartKept : Prop :=
  ∀ (s t : State), Safe s → step s = .next t → OneStart t ∧ GrantOrderHolds t

/-- R107, R95: after every step a barrier drives downward only under its Down Permit, the permit stands only
in LOWERING with Red Proven for the barrier's approach, and Red Proven is what the Proof States give. -/
def Obligations.BarriersGuardedKept : Prop :=
  ∀ (s t : State), Safe s → step s = .next t → BarriersGuarded t ∧ RedDerived t

/-- 10.1, R160, R181, R46, R176, R178 and the ranges of the tables of 6.1, 8.1, 9.4, 10.1 and R179: every
step keeps the event cursors with the ACTIVE links, the Duty Rotation free of repeats, the fields in range,
and no profile in force that has not passed validation, the BUILTIN one apart. -/
def Obligations.FieldsKept : Prop :=
  ∀ (s t : State), Safe s → step s = .next t →
    CursorsKept t ∧ RotationOnce t ∧ FieldsInRange t ∧ ProfileSound t

/-- A step with a command waiting is that command's `exec` on the state with the rest of the queue. -/
def Obligations.StepRunsFront : Prop :=
  ∀ (s : State) (c : Instr) (rest : List Instr),
    s.pending = c :: rest → step s = exec c { s with pending := rest }

/-- One microsecond of a running part has passed, from `s` to `t` (the model's choice, log 2): the counters that
count microseconds and, at a whole millisecond, milliseconds have counted or wait for their wrap; at a whole
10 ms every 10 ms timer has counted one step; and the commands waiting are the wraps, the checks and the whole
second that this instant brings. -/
def microsecondPasses (s t : State) : Prop :=
  let n := s.subSecond + 1
  let ticked (x : Timer) : Timer := if n % 10000 = 0 then x.tick else x
  t.subSecond = n ∧ t.timebase = s.timebase + 1 ∧
  t.lighting =
    { s.lighting with
      counter := if s.lighting.counter + 1 < s.lighting.periodInUse then s.lighting.counter + 1
        else s.lighting.counter
      dwell := ticked s.lighting.dwell } ∧
  t.signals =
    { s.signals with
      position := if n % 1000 = 0 ∧ s.signals.position + 1 < s.signals.periodInUse then
          s.signals.position + 1
        else s.signals.position } ∧
  (Instr.lightingPeriodBoundary ∈ t.pending ↔ s.lighting.periodInUse ≤ s.lighting.counter + 1) ∧
  (Instr.flashCycleWrap ∈ t.pending ↔
    (n % 1000 = 0 ∧ s.signals.periodInUse ≤ s.signals.position + 1)) ∧
  (∀ pos, (∃ sense, Instr.checkPosition pos sense ∈ t.pending) ↔
    (n % 1000 = 0 ∧ s.signals.position + 1 < s.signals.periodInUse ∧
      pos = BitVec.ofNat 16 (s.signals.position + 1) ∧
      ∃ c, checkPositionOf (s.displayed c) s.signals.periodInUse = some (s.signals.position + 1) ∧
        (s.signal c).checked = false)) ∧
  (Instr.stationClockSecond ∈ t.pending ↔ n = 1000000) ∧
  (∀ i, (t.inputs.get i).timer = ticked (s.inputs.get i).timer) ∧
  (∀ c, (t.channel c).sampleTimer = ticked (s.channel c).sampleTimer) ∧
  (∀ p, (t.pump p).timer = ticked (s.pump p).timer) ∧
  (∀ d, (t.drive d).dwell = ticked (s.drive d).dwell ∧ (t.drive d).travel = ticked (s.drive d).travel) ∧
  t.load = { s.load with settle := ticked s.load.settle, stagger := ticked s.load.stagger
                         hold := ticked s.load.hold } ∧
  t.gates.stem.stall = ticked s.gates.stem.stall ∧
  t.penstock.openDelay = ticked s.penstock.openDelay ∧
  t.closure =
    { s.closure with
      confirm := ticked s.closure.confirm, alert := ticked s.closure.alert
      clearance := ticked s.closure.clearance
      clearWait1 := ticked s.closure.clearWait1, clearWait2 := ticked s.closure.clearWait2 } ∧
  ∀ k, (t.link k).silence = ticked (s.link k).silence

/-- A step with no command waiting (the model's choice, log 2) changes no record of the plant, the links, the
Event Queue or the profile but the time left on timers and the free-running counters. On a running part, a
timer that is due makes its expiry, or work that waits, the next command and no time passes; with nothing due
one microsecond passes; with only a load evaluation or a word of a Write FIFO waiting, either may happen
(log 3). On a part that does not run, the capture timebase counts, and the Station Clock's microseconds but for
a held power-on. -/
def Obligations.IdleStepOnlyCounts : Prop :=
  ∀ (s : State), s.pending = [] →
    ∃ t, step s = .next t ∧ t.phase = s.phase ∧ t.restartCause = s.restartCause ∧
      t.stationClock = s.stationClock ∧ t.sump = s.sump ∧
      t.stages = s.stages ∧ t.rotation = s.rotation ∧ t.authority = s.authority ∧ t.events = s.events ∧
      t.profile = s.profile ∧
      t.lighting = { s.lighting with counter := t.lighting.counter, dwell := t.lighting.dwell } ∧
      t.signals = { s.signals with position := t.signals.position } ∧
      (∀ p, t.pump p = { s.pump p with timer := (t.pump p).timer }) ∧
      (∀ d, t.drive d = { s.drive d with dwell := (t.drive d).dwell, travel := (t.drive d).travel }) ∧
      t.gates.stem = { s.gates.stem with stall := t.gates.stem.stall } ∧
      t.penstock = { s.penstock with openDelay := t.penstock.openDelay } ∧
      t.load = { s.load with settle := t.load.settle, stagger := t.load.stagger, hold := t.load.hold } ∧
      t.closure = { s.closure with
        confirm := t.closure.confirm, alert := t.closure.alert, clearance := t.closure.clearance,
        clearWait1 := t.closure.clearWait1, clearWait2 := t.closure.clearWait2 } ∧
      (∀ k, t.link k = { s.link k with silence := (t.link k).silence }) ∧
      (∀ c, t.channel c = { s.channel c with sampleTimer := (t.channel c).sampleTimer }) ∧
      (∀ i, t.inputs.get i = { s.inputs.get i with timer := (t.inputs.get i).timer }) ∧
      (let taken (cs : List Instr) := ∃ c ∈ cs, t = { s with choices := s.choices + 1, pending := [c] }
       (s.phase = .running → dueTimers s ≠ [] → taken (dueTimers s ++ dueWork s)) ∧
       (s.phase = .running → dueTimers s = [] → dueWork s = [] → microsecondPasses s t) ∧
       (s.phase = .running → dueTimers s = [] → dueWork s ≠ [] →
         microsecondPasses s t ∨ taken (dueWork s))) ∧
      (s.phase ≠ .running →
        let counts := ¬ (s.phase = .held ∧ s.restartCause = .powerOn)
        t = { s with
          timebase := s.timebase + 1
          subSecond := if counts then s.subSecond + 1 else s.subSecond
          pending := if counts ∧ s.subSecond + 1 = 1000000 then [.stationClockSecond] else [] })

/-! ## Reset and start-up -/

/-- A select line at a reset (R162): a frame in progress is lost, and a select still asserted is ignored. -/
def lostSelect (x : Select) : Select := if x = .released then .released else .ignored

/-- A link's port has become ACTIVE (R160): the Silence Timer starts, every entry held is unread, and
LINK_ACTIVE is appended after that. -/
def activated (s : State) (k : Link) : State :=
  State.append .linkActive (linkIndex k) 0 (s.modLink k fun x =>
    { x with
      state := .active, silence := .running (Param.silenceTime s.prof)
      unread := some s.events.entries.length })

/-- The part as the command byte of a valid frame leaves it, before the command is carried out (R160, R161): an
ACTIVE link's Silence Timer restarts, a SILENT link becomes ACTIVE. -/
def begun (s : State) (k : Link) : State :=
  match (s.link k).state with
  | .active => s.modLink k fun x => { x with silence := .running (Param.silenceTime s.prof) }
  | .silent => activated s k
  | .starting | .restarted => s

/-- R181, R182, R164: POWER_ON, RESET_PIN and a HARD_RESET frame of exactly its one byte hold the part. While it is
held, and in STARTING until the NV check has ended, run lines and motor lines are off, lamp groups lit, signals
dark, attention lines released. A power-on clears the Station Clock and the Start Histories. The model's choices
(log 15): that the held part otherwise stands as it was until its release, but for the frames in progress, which
are lost (R162); that RESET_PIN leaves a power-on that is still held as it is; that it replaces the cause of any
other reset that is still held. The HARD_RESET frame first acts as the valid frame it is (R160, R161) and shifts
out the Link Status byte. -/
def Obligations.ResetsHold : Prop :=
  ∀ (s : State),
    (∃ t, exec .powerOn s = .next t ∧
      t = { s with phase := .held, restartCause := .powerOn, stationClock := 0, subSecond := 0,
                   pumps := t.pumps, linkA := t.linkA, linkB := t.linkB } ∧
      (∀ p, t.pump p = { s.pump p with history := [] }) ∧
      ∀ k, t.link k = { s.link k with select := lostSelect (s.link k).select }) ∧
    (s.phase = .held → s.restartCause = .powerOn → exec .resetPin s = .next s) ∧
    (s.phase ≠ .held ∨ s.restartCause ≠ .powerOn →
      ∃ t, exec .resetPin s = .next t ∧
        t = { s with phase := .held, restartCause := .resetPin, linkA := t.linkA, linkB := t.linkB } ∧
        ∀ k, t.link k = { s.link k with select := lostSelect (s.link k).select }) ∧
    (∀ k, s.phase ≠ .held → (s.link k).select = .released →
      let u := if s.phase = .running then begun s k else s
      ∃ t, exec (.hardReset ⟨k, .whole⟩ 0) s = .next t ∧
        t = { u with phase := .held, restartCause := if k = .a then .linkA else .linkB
                     linkA := t.linkA, linkB := t.linkB } ∧
        t.link k = { u.link k with dataOut := [statusByte s k], select := .released } ∧
        t.link (otherLink k) =
          { u.link (otherLink k) with select := lostSelect (s.link (otherLink k)).select }) ∧
    (s.phase = .held ∨ s.phase = .starting →
      (∀ p, runLine s p = false) ∧ (∀ d, upLine s d = false ∧ downLine s d = false) ∧
      (∀ g, lampOutput s g = true) ∧ (∀ n, signalOutput s n = false) ∧ ∀ k, attention s k = false)

/-- The part at RESET_RELEASE after a hard reset of `s` (R162, R170, R151): both links take their reset states
in STARTING, a select still asserted ignored, the Event Queue is emptied, and no link owns an edit. That the
rest of the Profile Store stands as before the reset is the model's choice (log 15). -/
def releasedAfter (s t : State) (frameEnded : Link → Prop) : Prop :=
  t.phase = .starting ∧
    (∀ k, ¬ frameEnded k → t.link k =
      { LinkPort.atReset with state := .starting, select := lostSelect (s.link k).select }) ∧
    (∀ k, frameEnded k → t.link k = { LinkPort.atReset with state := .starting }) ∧
    t.profile = { s.profile with owner := none } ∧ t.events = { entries := [], nextSeq := 1 }

/-- R182, R175, R170, R162, R151: through a hard reset (RESET_PIN, or the HARD_RESET frame of one byte),
RESET_RELEASE and START_UP_COMPLETE the Station Clock and the Start Histories are kept, and after POWER_ON
they are 0 and empty; what stands at RESET_RELEASE is `releasedAfter`. Three clauses are the model's choices:
that the Profile Store keeps its source, words and commit state through STARTING (log 15), and that a kept
history loses only entries of an hour's age, none to a lower Max Starts (log 30). -/
def Obligations.ResetKeepsHistories : Prop :=
  ∀ (s : State) (nv encA encB : Bool), s.phase = .running →
    let kept (cause : RestartCause) (t : State) := t.phase = .running ∧ t.restartCause = cause ∧
      t.stationClock = s.stationClock ∧
      ∀ p, (t.pump p).history = pruneHistory s.stationClock (s.pump p).history
    (∃ t1 t2 t3, exec .resetPin s = .next t1 ∧ exec .resetRelease t1 = .next t2 ∧
      exec (.startUpComplete nv encA encB) t2 = .next t3 ∧
      releasedAfter s t2 (fun _ => False) ∧ kept .resetPin t3) ∧
    (∀ k, (s.link k).select = .released →
      ∃ t1 t2 t3, exec (.hardReset ⟨k, .whole⟩ 0) s = .next t1 ∧ exec .resetRelease t1 = .next t2 ∧
        exec (.startUpComplete nv encA encB) t2 = .next t3 ∧
        releasedAfter s t2 (fun j => j = k) ∧ kept (if k = .a then .linkA else .linkB) t3) ∧
    (∃ t1 t2 t3, exec .powerOn s = .next t1 ∧ exec .resetRelease t1 = .next t2 ∧
      exec (.startUpComplete nv encA encB) t2 = .next t3 ∧
      t3.phase = .running ∧ t3.restartCause = .powerOn ∧ t3.stationClock = 0 ∧
      ∀ p, (t3.pump p).history = [])

/-- R181, R176: the end of the NV check chooses the profile, closes any edit, appends RESTART with its cause
and, under BUILTIN, PROFILE_INVALID, and takes both links to RESTARTED with their attention lines asserted.
Stated where no TRIPPED, DRIVER_FAULT, limit or ROAD_FLOOD pin is active, so that no block reports anything
after them. -/
def Obligations.StartUpChoosesProfile : Prop :=
  ∀ (s : State) (nv encA encB : Bool), s.phase = .starting →
    s.events = { entries := [], nextSeq := 1 } →
    (∀ k, s.link k = { LinkPort.atReset with
      state := .starting, dataOut := (s.link k).dataOut, select := (s.link k).select }) →
    (∀ p, (s.inputs.get (.tripped p)).pin = false) →
    (∀ g, (s.inputs.get (.driverFault g)).pin = false) →
    (∀ d, (s.inputs.get (.upLimit d)).pin = false ∧ (s.inputs.get (.downLimit d)).pin = false) →
    (s.inputs.get (.float .roadFlood)).pin = false →
    ∃ t, exec (.startUpComplete nv encA encB) s = .next t ∧
      t.phase = .running ∧
      t.profile.site = (nv && s.profile.nvCrc == some (crcOfWords s.profile.nvWords)) ∧
      t.profile.active = (if t.profile.site then s.profile.nvWords else builtinWords) ∧
      t.profile.staging = t.profile.active ∧ t.profile.owner = none ∧ t.profile.commit = .idle ∧
      t.profile.outcome = .none ∧ t.profile.failAddr = 0 ∧
      (∀ k, t.link k = { s.link k with state := .restarted } ∧ attention t k = true) ∧
      t.events.entries =
        { seq := 1, kind := .restart, subject := 0, detail := BitVec.ofNat 16 s.restartCause.code,
          time := s.stationClock } ::
        (if t.profile.site then [] else
          [{ seq := 2, kind := .profileInvalid, subject := 0, detail := 0, time := s.stationClock }])

/-- A called stage stands unassigned only while no pump qualifies for it (R44). -/
def stagesServed (t : State) : Prop :=
  ∀ k, (t.stage k).called = true → (t.stage k).assigned = none →
    ∀ p ∈ t.rotation, (∀ j, (t.stage j).assigned ≠ some p) →
      (t.pump p).isOn = false ∧ ¬ ((t.pump p).state = .idle ∧ t.startable p = true)

/-- The floats latch the stage at a float evaluation (R42). -/
def latches (s : State) (k : StageId) : Prop :=
  k.val < min 4 (Param.maxRunning s.prof) ∧
    (s.level (.float .highHigh) = true ∨ (k = 0 ∧ s.level (.float .high) = true))

/-- A pump may enter QUEUED, its State and its call apart (R25). -/
abbrev queueable (s : State) (p : PumpId) : Prop :=
  s.installed p = true ∧ s.level (.float .dry) = true ∧
    (pruneHistory s.stationClock (s.pump p).history).length < Param.maxStarts s.prof p ∧
    0 < s.load.budget ∧ s.runProven p = false

/-- The Active Budget that the supply gives (R52). -/
def supplyBudget (s : State) : Nat :=
  if s.load.supply = .dead ∨ s.load.settle.isRunning = true then 0
  else if s.load.supply = .mains then Param.mainsCapacity s.prof - Param.gateReserve s.prof
  else Param.generatorCapacity s.prof - Param.gateReserve s.prof

/-- A lamp group's load at a duty (R53). -/
def lampLoad (s : State) (g : GroupId) (duty : Nat) : Nat := (Param.fullLoad s.prof g * duty + 999) / 1000

/-- The duties `d` are those that the distribution of an allowance grants (R65, R66): 0 to a group in driver
fault; to every other its effective floor where the floor loads exceed the allowance; and otherwise, in ascending
Priority, the requests as long as they fit, then one partial grant, then the floors. A group whose Full Load is 0
has its request even where others have their floors (the model's choice, log 31). -/
def sharedOut (s : State) (allowance : Nat) (d : GroupId → Nat) : Prop :=
  let request (g : GroupId) := (s.group g).requested
  let floor (g : GroupId) := min (Param.floorDuty s.prof g) (request g)
  let least (g : GroupId) := if Param.fullLoad s.prof g = 0 then request g else floor g
  let extra (g : GroupId) := lampLoad s g (request g) - lampLoad s g (floor g)
  let part := (groupsByPriority s).filter fun g => (s.group g).fault == .none
  let floors := (part.map fun g => lampLoad s g (floor g)).sum
  (∀ g, (s.group g).fault ≠ .none → d g = 0) ∧
  (allowance < floors → ∀ g ∈ part, d g = least g) ∧
  (floors ≤ allowance → ∃ full rest, part = full ++ rest ∧
    (full.map extra).sum ≤ allowance - floors ∧ (∀ g ∈ full, d g = request g) ∧
    match rest with
    | [] => True
    | g :: later =>
      let upTo := lampLoad s g (floor g) + (allowance - floors - (full.map extra).sum)
      upTo < lampLoad s g (request g) ∧ d g = min (request g) (upTo * 1000 / Param.fullLoad s.prof g) ∧
        ∀ h ∈ later, d h = least h)

/-- A closure has started: the road is in ALERT (R132, R128). -/
def alerted (s t : State) : Prop :=
  t.closure.state = .alert ∧ t.closure.halt = .none ∧ t.closure.obstructions = 0 ∧
    t.closure.alert = .running (Param.alertTime s.prof) ∧
    ∀ n : SignalId, (t.signal n).commanded =
      (#v[Aspect.dark, .dark, .flashA, .dark, .dark, .flashB, .steady, .steady])[n]

/-- The Clearance Timer runs from its full time with Held clear while both approaches are Red Proven, and stands
held otherwise (R133). -/
def clearanceJudged (s t : State) : Prop :=
  if bothRed t = true then
    t.closure.clearance = .running (Param.clearanceTime s.prof) ∧ t.closure.held = false
  else t.closure.clearance = .stopped ∧ t.closure.held = true

/-- The Pump Records, the Stage Calls and the Duty Rotation at reset release (R49, R42). A pump enters QUEUED
only where the first load evaluation finds an Active Budget, which it does under a Supply Settle Time of 0. That
a kept history loses no entry to a lower Max Starts is the model's choice (log 30). -/
def pumpsReleased (s t : State) : Prop :=
  let tripped (p : PumpId) := t.installed p && t.level (.tripped p)
  let record (p : PumpId) : Pump :=
    { state := if tripped p then .faulted else if t.runProven p then .stopping else .idle
      faultCause := if tripped p then .tripped else .none
      stopCause := if t.runProven p then .uncommanded else .none
      timer := if !tripped p && t.runProven p then .running (Param.stopProof t.prof p) else .stopped
      requeue := false
      history := pruneHistory t.stationClock (s.pump p).history }
  let members := allPumps.filter fun p => t.installed p && !t.keyLocal (.pump p) && !t.level (.tripped p)
  (∀ p, t.pump p =
    if (record p).state = .idle ∧ t.call p ≠ .none ∧ queueable t p then { record p with state := .queued }
    else record p) ∧
  t.rotation = (members.filter fun p => !t.level (.sealWarning p)) ++
    members.filter (fun p => t.level (.sealWarning p)) ∧
  stagesServed t ∧
  ∀ k, ((t.stage k).called = true ↔ latches t k) ∧
    ((t.stage k).called = true → (t.stage k).basis = .float) ∧
    ((t.stage k).called = false → t.stage k = { called := false, basis := .none, assigned := none })

/-- The Load record at reset release (R69, R52), with the first load evaluation made (R65, R66). -/
def loadReleased (t : State) : Prop :=
  let supply : Supply := if t.level .generatorOnLoad then .generator
    else if t.level .mainsHealthy then .mains else .dead
  let lamps := (allGroups.map fun g => (t.group g).grantedLoad).sum
  t.load =
    { supply := supply
      settle := if supply = .dead then .stopped else if Param.settleTime t.prof = 0 then .expired
        else .running (Param.settleTime t.prof)
      budget := supplyBudget t, pumpPart := 0, lampPart := lamps, committed := lamps, headStart := 0
      reserve := 0, allowance := supplyBudget t, queue := t.load.queue, grantOrder := []
      stagger := .expired, hold := .stopped, episode := none, heldAppended := false
      evalDue := !t.load.queue.isEmpty } ∧
  (∀ e ∈ t.load.queue, (t.pump e.pump).state = .queued) ∧
  ((∀ g, g ∈ groupsByPriority t) → (groupsByPriority t).Nodup →
    sharedOut t t.load.allowance fun g => (t.group g).granted)

/-- The Lighting and Lamp Group records at reset release (R86, R74, R83). -/
def lightingReleased (t : State) : Prop :=
  let top := Param.installedStages t.prof
  t.lighting =
    { counter := 0, periodInUse := Param.lightingPeriod t.prof, stage := top
      dwell := .running (Param.stageDwell t.prof), stageLum := 0, groups := t.lighting.groups } ∧
  ∀ g, t.group g =
    { requested := if t.profile.site then min 1000 (Param.stageDuty t.prof top g) else 1000
      source := if t.profile.site then .stage else .builtin
      granted := (t.group g).granted
      grantedLoad := lampLoad t g (t.group g).granted
      applied := 1000
      offset := Param.phaseOffset t.prof g
      fault := if t.level (.driverFault g) = false then .none
        else if Param.perPeriod t.prof g then .transient else .latched
      darkHold := t.level (.driverFault g) }

/-- The Signal records at reset release (R97). -/
def signalsReleased (t : State) : Prop :=
  let isOpen := t.closure.state = .open
  t.signals =
    { position := 0, periodInUse := Param.flashPeriod t.prof
      lampTest := t.level (.button .lampTest) && decide isOpen
      redProven1 := false, redProven2 := false, channels := t.signals.channels } ∧
  ∀ n, t.signal n =
    { commanded := if isOpen then .dark
        else (#v[Aspect.steady, .steady, .dark, .steady, .steady, .dark, .steady, .steady])[n]
      proof := if t.displayed n = .dark then .dark else .unproven
      miss := 0, checked := false, lastSense := .none, failFlag := false }

/-- The Penstock Controller and its drive at reset release (R116, R127). -/
def penstockReleased (t : State) : Prop :=
  let hand := t.authority.penstock = .hand
  let both := t.limit .penstock true && t.limit .penstock false
  t.penstock = { State.reset.penstock with target := if hand then .stopped else .closed } ∧
  t.gates.penstock =
    { Drive.atReset with
      dwell := .running (Param.reversalDwell t.prof)
      state := if both then .faulted else if hand ∨ t.limit .penstock false = true then .stopped else .dwell
      pending := if both ∨ hand ∨ t.limit .penstock false = true then .none else .down
      arrival := if ¬ both ∧ ¬ hand ∧ t.limit .penstock false = true then .down else .none
      fault := if both then .limitConflict else .none }

/-- R1, R17, R21, R49, R69, R86, R97, R116, R127, R144, R159: the blocks at reset release. Every input takes its
pin's level; the Channel Records, the Sump Summary, the Pump Records with the stages and the Duty Rotation
(`pumpsReleased`), the Load Monitor (`loadReleased`), the Lamp Groups (`lightingReleased`) and the penstock
(`penstockReleased`) take their reset values, with PUMP_FAULT and LAMP_FAULT for what stands TRIPPED or in driver
fault; every unit is HAND or AUTO by its key with neutral demands; the barrier drives and the penstock's reference
follow their limits; all run lines are off. The road is in the state that the barriers' limits give, with its
signals (`signalsReleased`), while ROAD_FLOOD is inactive or the road is under HAND; with ROAD_FLOOD active under
AUTO an OPEN road is in ALERT and a halted one in STOP. -/
def Obligations.StartUpSetsBlocks : Prop :=
  ∀ (s : State) (nv encA encB : Bool), s.phase = .starting →
    ∃ t, exec (.startUpComplete nv encA encB) s = .next t ∧
      (∀ i, t.inputs.get i =
        { pin := (s.inputs.get i).pin, level := (s.inputs.get i).pin, candidate := false,
          timer := .stopped }) ∧
      (∀ c, t.channel c =
        { Channel.atReset with
          state := if t.profile.site then .waiting else .uncalibrated
          scaled := Param.mount t.prof c
          filter := 16 * Param.mount t.prof c
          reported := Param.mount t.prof c
          sampleTimer := if t.profile.site then .running (Param.sampleTimeout t.prof c) else .stopped }) ∧
      t.sump = State.reset.sump ∧
      pumpsReleased s t ∧ loadReleased t ∧ lightingReleased t ∧ penstockReleased t ∧
      (s.events = { entries := [], nextSeq := 1 } →
        (t.events.entries.head?.map fun e => e.kind) = some .restart ∧
        (∀ p, t.installed p = true → t.level (.tripped p) = true → ∃ e ∈ t.events.entries,
          e.kind = .pumpFault ∧ e.subject = p.val + 1 ∧ e.detail.toNat = PumpFaultCause.tripped.code) ∧
        (∀ g, t.level (.driverFault g) = true → ∃ e ∈ t.events.entries,
          e.kind = .lampFault ∧ e.subject = g.val + 1 ∧
          e.detail.toNat = if Param.perPeriod t.prof g then 1 else 0)) ∧
      (∀ u, t.authorityOf u = if t.keyLocal u then .hand else .auto) ∧
      t.authority.demands = State.reset.authority.demands ∧ (∀ u, t.clearCount u = 0) ∧
      (∀ b, t.drive (.barrier b) =
        { Drive.atReset with
          state := if t.limit (.barrier b) true && t.limit (.barrier b) false then .faulted else .stopped
          fault := if t.limit (.barrier b) true && t.limit (.barrier b) false then .limitConflict
            else .none
          dwell := .running (Param.reversalDwell t.prof) }) ∧
      t.gates.stem.count = 0 ∧ t.gates.stem.referenced = t.limit .penstock false ∧
      t.gates.stem.seatFlag = false ∧ t.gates.stem.encA = encA ∧ t.gates.stem.encB = encB ∧
      (∀ p, runLine t p = false) ∧
      let flood := (s.inputs.get (.float .roadFlood)).pin
      let isDown := ∀ b, t.limitPosition (.barrier b) = .down
      (flood = false ∨ t.authority.road = .hand →
        signalsReleased t ∧ t.closure.advised = advisedNow t ∧
        (barriersUp t = true → t.closure.state = .open ∧ t.closure.halt = .none) ∧
        (isDown → t.closure.state = .closed ∧ t.closure.halt = .none) ∧
        (barriersUp t = false → ¬ isDown →
          t.closure.state = .halted ∧ t.closure.halt = .resetMidTravel)) ∧
      (flood = true → t.authority.road ≠ .hand →
        (barriersUp t = true → alerted t t) ∧
        (isDown → t.closure.state = .closed ∧ t.closure.halt = .none) ∧
        (barriersUp t = false → ¬ isDown →
          t.closure.state = .stop ∧ t.closure.halt = .none ∧ clearanceJudged t t))

/-! ## Inputs and the Measurement Unit -/

/-- R1, R2: a pin that leaves the qualified level starts the debounce timer with its class's time, rounded up
to 10 ms; a pin that returns to it cancels the timer; nothing else changes. On a part that does not run, the
pin alone changes. -/
def Obligations.PinChangeQualifies : Prop :=
  ∀ (s : State) (i : InputId) (level : Bool), (s.inputs.get i).pin ≠ level →
    ∃ t, exec (.inputPinChange i level) s = .next t ∧ Changes [.inputs] [] s t ∧
      (∀ j, j ≠ i → t.inputs.get j = s.inputs.get j) ∧
      (s.phase ≠ .running → t.inputs.get i = { s.inputs.get i with pin := level }) ∧
      (s.phase = .running → t.inputs.get i =
        { pin := level
          level := (s.inputs.get i).level
          candidate := level != (s.inputs.get i).level
          timer := if level = (s.inputs.get i).level then .stopped
            else .running (match i with
              | .float _ => (s.prof[0]).toNat
              | _ => ((s.prof[1]).toNat + 9) / 10) })

/-- An input has taken its pin's level: `s` with that input qualified (R1). -/
def qualified (s : State) (i : InputId) : State :=
  let q : QInput :=
    { pin := (s.inputs.get i).pin, level := (s.inputs.get i).pin, candidate := false, timer := .stopped }
  { s with inputs := s.inputs.put i q }

/-- The record of a drive whose motion a limit, the torque switch or an obstruction has ended in STOPPED
(R98): its dwell restarts in the direction it drove. A permit stands or falls with the Closure State. -/
def stoppedDrive (s t : State) (d : DriveId) (a : Arrival) : Drive :=
  { s.drive d with
    state := .stopped, pending := .none, arrival := a, travel := .stopped
    dwell := .running (Param.reversalDwell s.prof)
    lastDir := if (s.drive d).state = .drivingUp then .up else .down
    permit := (t.drive d).permit }

/-- What a barrier's arrival at the limit it drove toward does at the road, from before the limit's change to
`t` (R134, R135, R140, R131). In LOWERING, DOWN takes a DESCENDING barrier to DOWN_DONE, and the second one the
road to CLOSED; UP takes a RETREATING barrier to CLEAR_WAIT, its timer running while OBSTRUCTION is inactive and
stopped at full while it is active. In RAISING, UP takes an ASCENDING barrier to UP_DONE, and the second one the
road to OPEN, where a trigger that stands acts at once. In every other case the road stays as it was. Under HAND
a standing trigger is advised of. The other barrier's drive keeps its record but for its permit, stated where it
is not on its way down. -/
def arrivesAtRoad (b : Barrier) (up : Bool) (s t : State) : Prop :=
  let x := s.closure
  let arrival : Report := (.driveArrived, driveIndex (.barrier b), (if up then Arrival.up else .down).code)
  let advice : List Report :=
    if advisedNow t && !x.advised then [(.closureAdvised, 0, lowestFlag x)] else []
  let all (p : BarrierPhase) := ∀ c, c ≠ b → x.phase c = p
  let phased (p : BarrierPhase) : Closure :=
    match b with
    | .one => { x with phase1 := p }
    | .two => { x with phase2 := p }
  let waiting : Closure :=
    let full : Timer :=
      if s.level (.obstruction b) then .stopped else .running (Param.obstructionClearTime s.prof)
    match b with
    | .one => { phased .clearWait with clearWait1 := full }
    | .two => { phased .clearWait with clearWait2 := full }
  let stays (y : Closure) :=
    Changes [.inputs, .gates] (arrival :: advice) { s with closure := { y with advised := advisedNow t } } t
  let ends (new : ClosureState) (es : List Report) :=
    Changes [.inputs, .signals, .gates, .closure] (arrival :: (.closureState, 0, new.code) :: es) s t
  let rests (new : ClosureState) :=
    t.closure =
      { x with
        state := new, halt := .none, alert := .stopped, clearance := .stopped, held := false
        clearWait1 := .stopped, clearWait2 := .stopped, phase1 := .none, phase2 := .none
        advised := advisedNow t } ∧
    ∀ n, (t.signal n).commanded = (aspectsOf new)[n]
  let descended := x.state = .lowering ∧ up = false ∧ x.phase b = .descending
  let retreated := x.state = .lowering ∧ up = true ∧ x.phase b = .retreating
  let risen := x.state = .raising ∧ up = true ∧ x.phase b = .ascending
  let acts := x.trigger = true ∧ s.authority.road ≠ .hand
  t.gates.penstock = s.gates.penstock ∧ t.gates.stem = s.gates.stem ∧
  (∀ c, c ≠ b → (s.drive (.barrier c)).state ≠ .drivingDown → (s.drive (.barrier c)).state ≠ .dwell →
    t.drive (.barrier c) = { s.drive (.barrier c) with permit := (t.drive (.barrier c)).permit }) ∧
  (descended → all .downDone → ends .closed [] ∧ rests .closed) ∧
  (descended → ¬ all .downDone → stays (phased .downDone)) ∧
  (retreated → stays waiting) ∧
  (risen → ¬ all .upDone → stays (phased .upDone)) ∧
  (risen → all .upDone → ¬ acts → ends .open advice ∧ rests .open) ∧
  (risen → all .upDone → acts → ends .open [(.closureState, 0, ClosureState.alert.code)] ∧ alerted s t) ∧
  (¬ descended → ¬ retreated → ¬ risen → stays x)

/-- R102, R104, R111, R136: what a limit that has become active does to its drive. Both limits active fault a
drive that is not FAULTED with LIMIT_CONFLICT, and a road in LOWERING or RAISING goes to HALTED; otherwise a
drive driving toward the limit stops there with its Arrival, which acts at the road (`arrivesAtRoad`). The
penstock's closed limit zeroes the count and
sets REFERENCED; its open limit with the count outside the tolerance loses the reference first
(REFERENCE_SUSPECT). That a conflict is judged before an arrival, and reported after REFERENCE_SUSPECT, is the
model's choice (log 11). The arrivals are stated for a barrier that is not DOWN_DONE and a penstock that is not
suspect. -/
def limitActs (d : DriveId) (up : Bool) (s t : State) : Prop :=
  let conflict := s.limit d (!up) = true
  let driven := (s.drive d).state = if up then DriveState.drivingUp else .drivingDown
  let tc : Int := Param.travelCounts s.prof
  let suspect := d = .penstock ∧ up = true ∧ s.gates.stem.referenced = true ∧
    ((Param.limitTolerance s.prof : Int) < s.gates.stem.count - tc ∨
      (Param.limitTolerance s.prof : Int) < tc - s.gates.stem.count)
  let reports (es : List Report) := Changes (.inputs :: plantBlocks) es s t
  let arrival : Report := (.driveArrived, driveIndex d, (if up then Arrival.up else .down).code)
  let conflicted : Report := (.driveFault, driveIndex d, DriveFault.limitConflict.code)
  (d = .penstock → up = false → t.gates.stem.count = 0 ∧ t.gates.stem.referenced = true) ∧
  (suspect → t.gates.stem.referenced = false ∧ t.gates.stem.seatFlag = false ∧
    t.gates.stem.count = s.gates.stem.count ∧
    ∃ es, reports ((.referenceSuspect, 3, s.gates.stem.count) :: es)) ∧
  (conflict → (s.drive d).state ≠ .faulted →
    (t.drive d).state = .faulted ∧ (t.drive d).fault = .limitConflict ∧
    upLine t d = false ∧ downLine t d = false ∧
    (¬ suspect → ∃ es, reports (conflicted :: es)) ∧
    (suspect → ∃ es, reports ((.referenceSuspect, 3, s.gates.stem.count) :: conflicted :: es)) ∧
    (d ≠ .penstock → (s.closure.state = .lowering ∨ s.closure.state = .raising) →
      t.closure.state = .halted ∧ t.closure.halt = .travelFault)) ∧
  (¬ conflict → driven → ¬ suspect → (∀ b, d = .barrier b → s.closure.phase b ≠ .downDone) →
    (∃ es, reports (arrival :: es)) ∧
    t.drive d = stoppedDrive s t d (if up then .up else .down) ∧
    ∀ b, d = .barrier b → arrivesAtRoad b up s t)

/-- R108, R135, R136: an obstruction under a barrier driving down in LOWERING stops it, is counted and reported;
within the retries the barrier retreats, waiting in DWELL to drive up, and past them the road is HALTED with
OBSTRUCTION_LIMIT. Stated below a count of 255, where the spec gives the sum (log 9), and away from the up
limit. -/
def obstructionActs (b : Barrier) (s t : State) : Prop :=
  let n := s.closure.obstructions + 1
  s.closure.state = .lowering → (s.drive (.barrier b)).state = .drivingDown → n ≤ 255 →
    s.limit (.barrier b) true = false →
    t.closure.obstructions = n ∧ upLine t (.barrier b) = false ∧ downLine t (.barrier b) = false ∧
    (∃ es, Changes (.inputs :: plantBlocks) ((.barrierObstructed, driveIndex (.barrier b), n) :: es) s t) ∧
    (n ≤ Param.obstructionRetries s.prof →
      t.closure.state = .lowering ∧ t.closure.phase b = .retreating ∧
      (t.drive (.barrier b)).state = .dwell ∧ (t.drive (.barrier b)).pending = .up ∧
      (t.drive (.barrier b)).dwell = .running (Param.reversalDwell s.prof)) ∧
    (Param.obstructionRetries s.prof < n →
      t.closure.state = .halted ∧ t.closure.halt = .obstructionLimit ∧
      t.drive (.barrier b) = stoppedDrive s t (.barrier b) .none)

/-- R114: the torque switch against a closing penstock is a seat while it is REFERENCED at or below the Seat
Band, and a TORQUE_TRIP otherwise; against an opening one it is a TORQUE_TRIP. -/
def torqueActs (s t : State) : Prop :=
  let seats := s.gates.stem.referenced = true ∧ s.gates.stem.count ≤ Param.seatBand s.prof
  let tripped := Changes [.inputs, .gates] [(.driveFault, 3, DriveFault.torqueTrip.code)] s t ∧
    t.gates.penstock =
      { stoppedDrive s t .penstock .none with state := .faulted, fault := .torqueTrip } ∧
    t.gates.stem.stopCount = none ∧ t.gates.stem.stall = .stopped
  (s.gates.penstock.state = .drivingUp → tripped) ∧
  (s.gates.penstock.state = .drivingDown → ¬ seats → tripped) ∧
  (s.gates.penstock.state = .drivingDown → seats →
    Changes [.inputs, .gates] [(.driveArrived, 3, Arrival.seat.code)] s t ∧
    t.gates.penstock = stoppedDrive s t .penstock .seat ∧
    t.gates.stem = { s.gates.stem with
      seatFlag := true, seatBand := Param.seatBand s.prof, stopCount := none, stall := .stopped })

/-- A pump has failed with a cause (R27, R30, R32, with R44 to R46): FAULTED, run line off, out of the Duty
Rotation, without a stage (where it held one at most), the stages still called; PUMP_FAULT is the one
report. -/
def pumpFailed (p : PumpId) (cause : PumpFaultCause) (s t : State) : Prop :=
  t.pump p =
    { s.pump p with
      state := .faulted, faultCause := cause, timer := .stopped, requeue := false
      history := pruneHistory s.stationClock (s.pump p).history } ∧
  runLine t p = false ∧ p ∉ t.rotation ∧ (∀ k, (t.stage k).called = (s.stage k).called) ∧
  ((∀ j k, (s.stage j).assigned = some p → (s.stage k).assigned = some p → j = k) →
    ∀ k, (t.stage k).assigned ≠ some p) ∧
  Changes [.pumps, .load] [(.pumpFault, p.val + 1, cause.code)] s t

/-- An IDLE pump for which every condition of R25 for entering QUEUED holds. -/
def mayQueue (s : State) (p : PumpId) : Prop :=
  (s.pump p).state = .idle ∧ s.call p ≠ .none ∧ queueable s p

/-- A new entry `e` has taken its place by R55 as the queue `q` became `t`: with Requeue At Head ahead of every
entry of its own class, HAND or not, and otherwise a HAND entry behind the HAND entries and ahead of the others,
any other entry at the tail. The entries of `q` that stay keep their order. -/
def enqueued (q t : List QueueEntry) (e : QueueEntry) (requeue : Bool) : Prop :=
  let hand (x : QueueEntry) := x.source = Call.hand
  (∃ ahead behind, t = ahead ++ e :: behind ∧ ∀ x ∈ q, x ∈ t →
    if requeue then (if hand x ∧ ¬ hand e then x ∈ ahead else x ∈ behind)
    else (if hand e ∧ ¬ hand x then x ∈ behind else x ∈ ahead)) ∧
  (handsFirst q → (q.filter fun x => t.contains x).Sublist t)

/-- The pump has been entered in the Start Queue between `s` and `t` with a source, in the place of R55 for the
Requeue At Head it had in `s`, which has cleared (R25, R37, R55). -/
def enteredAs (source : Call) (s t : State) (p : PumpId) : Prop :=
  (t.pump p).state = .queued ∧ (t.pump p).requeue = false ∧
    enqueued s.load.queue t.load.queue { pump := p, source := source, queuedAt := s.stationClock }
      (s.pump p).requeue

/-- The pump has been entered in the Start Queue between `s` and `t`, with the call it had in `s` (R25). -/
def entered (s t : State) (p : PumpId) : Prop := enteredAs (s.call p) s t p

/-- The pump is IDLE and has no entry in the Start Queue (R25). -/
def withdrawn (t : State) (p : PumpId) : Prop :=
  (t.pump p).state = .idle ∧ ∀ e ∈ t.load.queue, e.pump ≠ p

/-- The Pump Record of a pump sent to STOPPING with a cause, and on to RESTING where RUN_PROVEN is inactive
(R24, R30); its history has been consulted (R48). -/
def stopRecord (s : State) (p : PumpId) (cause : StopCause) : Pump :=
  { s.pump p with
    state := if s.runProven p then .stopping else .resting
    stopCause := cause
    timer := if s.runProven p then .running (Param.stopProof s.prof p)
      else .running (Param.minRest s.prof p)
    history := pruneHistory s.stationClock (s.pump p).history }

/-- A pump's call has been withdrawn between `s` and `t` (R25, R27, R28, R37, R44): a RUNNING pump whose Min Run
has expired stops, one whose Min Run runs and a STARTING one go on, and a QUEUED pump of AUTO that no uncalled
stage holds returns to IDLE. -/
def callEnds (s t : State) (p : PumpId) : Prop :=
  (t.pump p).requeue = false ∧
  ((s.pump p).state = .running → (s.pump p).timer.isRunning = false →
    t.pump p = { stopRecord s p .callEnded with requeue := false }) ∧
  ((s.pump p).state = .running → (s.pump p).timer.isRunning = true →
    (t.pump p).state = .running ∧ (t.pump p).timer = (s.pump p).timer) ∧
  ((s.pump p).state = .starting → (t.pump p).state = .starting) ∧
  ((s.pump p).state = .queued → s.authorityOf (.pump p) = .auto →
    (∀ j, (s.stage j).assigned = some p → (s.stage j).called = true) → withdrawn t p)

/-- What the Pump Sequencer does with a float's change of level. DRY reporting dry stops every pump that is on
and withdraws every queued one, with the stages left to the stopped pumps (R34). In float mode the STOP float
falling releases every stage, the pump that served stage 1 going to the tail of the Duty Rotation (R42, R44,
R47), and every other change latches stages (R42). Otherwise called stages and the rotation stand, and a pump
that can enter QUEUED does (R25). ROAD_FLOOD has ConfirmStartsClosure as well. -/
def floatActs (f : FloatId) (q t : State) : Prop :=
  let active := q.level (.float f)
  let floatMode := q.profile.site = false ∨ q.sump.source = .floats
  let falls := floatMode ∧ f = .stop ∧ active = false
  (f ≠ .roadFlood → Changes [.pumps, .load] [] q t) ∧ stagesServed t ∧
  (f = .dry → active = false → ∀ p,
    ((q.pump p).isOn = true → t.pump p = stopRecord q p .dry ∧ runLine t p = false ∧
      ∀ k, (q.stage k).assigned = some p → (t.stage k).assigned = some p) ∧
    ((q.pump p).state = .queued → withdrawn t p) ∧
    ((q.pump p).isOn = false → (q.pump p).state ≠ .queued → (t.pump p).state = (q.pump p).state)) ∧
  (¬ falls →
    t.rotation = q.rotation ∧ (∀ p, mayQueue q p → entered q t p) ∧
    ∀ k,
      ((t.stage k).called = true ↔ ((q.stage k).called = true ∨ (floatMode ∧ latches q k))) ∧
      ((q.stage k).called = true → (t.stage k).basis = (q.stage k).basis) ∧
      ((q.stage k).called = false → (t.stage k).called = true → (t.stage k).basis = .float)) ∧
  (falls →
    (∀ k, (t.stage k).called = false ∧
      ((q.stage k).called = true → t.stage k = { called := false, basis := .none, assigned := none })) ∧
    t.rotation =
      (match (q.stage 0).called, (q.stage 0).assigned with
        | true, some p => if p ∈ q.rotation then q.rotation.filter (· != p) ++ [p] else q.rotation
        | _, _ => q.rotation) ∧
    ∀ k p, (q.stage k).called = true → (q.stage k).assigned = some p → callEnds q t p)

/-- What the LAMP TEST button does (R87, R90, R93, R95). In OPEN every channel shows STEADY while it is active
and its Commanded Aspect again afterwards, with the Proof States following; in another state nothing happens
where no Lamp Test was active. -/
def lampTestActs (q t : State) : Prop :=
  let on := q.level (.button .lampTest)
  let unchecked (x : SignalChannel) : SignalChannel :=
    { x with proof := .unproven, miss := 0, checked := true, lastSense := .none }
  let dark (x : SignalChannel) : SignalChannel := { x with proof := .dark, miss := 0, lastSense := .none }
  (q.closure.state = .open →
    Changes [.signals, .gates] [] q t ∧ RedDerived t ∧ t.signals.lampTest = on ∧
    t.signals.position = q.signals.position ∧ t.signals.periodInUse = q.signals.periodInUse ∧
    (on = true → ∀ n, t.displayed n = .steady ∧
      t.signal n = if q.displayed n = .dark then unchecked (q.signal n) else q.signal n) ∧
    (on = false → q.signals.lampTest = true → ∀ n, t.displayed n = (q.signal n).commanded ∧
      t.signal n = if (q.signal n).commanded = .dark then dark (q.signal n) else q.signal n)) ∧
  (q.closure.state ≠ .open → q.signals.lampTest = false → RedDerived q → t = q)

/-- What a limit that has become inactive does. The penstock of a CLOSED target that has left its seat while
STOPPED is commanded DOWN again (R122); a DOWN_DONE barrier of a LOWERING road that has left its down limit is
driven down again (R134, stated for a barrier free to start); nothing else moves (R98, R138). -/
def limitLeft (d : DriveId) (up : Bool) (q t : State) : Prop :=
  match d with
  | .penstock =>
    let unseats := up = false ∧ q.penstock.target = .closed ∧ q.gates.penstock.state = .stopped ∧
      q.gates.stem.seatFlag = false
    (unseats → t = (commandDrive .penstock (.down none) q).1) ∧ (¬ unseats → t = q)
  | .barrier b =>
    let done := q.closure.state = .lowering ∧ q.closure.phase b = .downDone
    (¬ done → q.closure.advised = advisedNow q → t = q) ∧
    (done → up = false → (q.drive d).state = .stopped → (q.drive d).permit = true →
      (q.drive d).dwell.isRunning = false → q.level (.obstruction b) = false →
      Changes [.gates, .closure] [] q t ∧ t.closure.state = .lowering ∧
      t.closure.phase b = .descending ∧
      t.drive d =
        { q.drive d with
          state := .drivingDown, pending := .none, arrival := .none
          travel := .running (Param.travelTime q.prof d) })

/-- What a change of an OBSTRUCTION input does that stops no downward motion (R135): in CLEAR_WAIT its Clear
Wait Timer stands stopped while the input is active and starts from full as it becomes inactive. -/
def clearWaitJudged (b : Barrier) (q t : State) : Prop :=
  let active := q.level (.obstruction b)
  active = false ∨ (q.drive (.barrier b)).state ≠ .drivingDown →
    (q.closure.phase b ≠ .clearWait → q.closure.advised = advisedNow q → t = q) ∧
    (q.closure.phase b = .clearWait → q.closure.state = .lowering →
      Changes [.closure] [] q t ∧ t.closure.state = .lowering ∧ t.closure.phase b = .clearWait ∧
      t.closure.clearWait b =
        (if active then .stopped else .running (Param.obstructionClearTime q.prof)) ∧
      ∀ c, c ≠ b → t.closure.clearWait c = q.closure.clearWait c ∧ t.closure.phase c = q.closure.phase c)

/-- R1: the expiry of a running debounce timer gives the input its pin's level, with the candidate flag clear;
no other input, no channel, no profile and no link item is changed by what the owning block then does. A timer
that does not run has no expiry. Every input's change of level acts at its block. Stated here: a limit becoming
active (`limitActs`, with what a barrier's arrival does at the road by R134, R135 and R140: `arrivesAtRoad`) or
inactive (`limitLeft`), an OBSTRUCTION input (`obstructionActs`, `clearWaitJudged`), the torque switch
(`torqueActs`), TRIPPED (R32, `pumpFailed`), DRIVER_FAULT (R83), SEAL_WARNING, which moves a member of the Duty
Rotation to its tail (R47), the floats (`floatActs`) and LAMP TEST (`lampTestActs`); the torque switch, TRIPPED,
SEAL_WARNING, DRIVER_FAULT and the other buttons do nothing as they become inactive, and the TRIPPED and
SEAL_WARNING inputs of a pump that is not Installed nothing at all (R23). Stated elsewhere: RUN_PROVEN in
RunProvenStartsRun, the supply contacts in SupplyLossIdlesPumps, ROAD_FLOOD at the road in ConfirmStartsClosure,
the keys in TakeAndRelease, CLOSE and REOPEN in RoadWords, FAULT RESET in ClearWord. The order of a limit
conflict, an arrival and REFERENCE_SUSPECT is the model's choice (log 11), and so is the Duty Rotation where
STOP releases a stage 1 that stands unassigned (log 33). -/
def Obligations.DebounceExpiryQualifies : Prop :=
  ∀ (s : State) (i : InputId), s.phase = .running →
    let q := qualified s i
    let rises := (s.inputs.get i).pin = true ∧ (s.inputs.get i).level = false
    let falls := (s.inputs.get i).pin = false ∧ (s.inputs.get i).level = true
    ((s.inputs.get i).timer.isRunning = true →
      ∃ t, exec (.debounceTimerExpiry i) s = .next t ∧ Touches (.inputs :: plantBlocks) s t ∧
        (∀ j, j ≠ i → t.inputs.get j = s.inputs.get j) ∧
        t.inputs.get i =
          { pin := (s.inputs.get i).pin, level := (s.inputs.get i).pin, candidate := false,
            timer := .stopped } ∧
        (rises →
          (∀ d, i = .upLimit d → limitActs d true s t) ∧
          (∀ d, i = .downLimit d → limitActs d false s t) ∧
          (∀ b, i = .obstruction b → obstructionActs b s t) ∧
          (i = .torque → torqueActs s t) ∧
          (∀ p, i = .tripped p →
            (s.installed p = true → (s.pump p).state ≠ .faulted → pumpFailed p .tripped q t) ∧
            (s.installed p = false ∨ (s.pump p).state = .faulted → t = q)) ∧
          (∀ p, i = .sealWarning p →
            (s.installed p = true → Changes [.pumps, .load] [] q t ∧
              t.rotation = if p ∈ s.rotation then s.rotation.filter (· != p) ++ [p] else s.rotation) ∧
            (s.installed p = false → t = q)) ∧
          (∀ g, i = .driverFault g →
            ((s.group g).fault ≠ .none → t = q) ∧
            ((s.group g).fault = .none →
              Changes [.inputs, .lighting, .load]
                [(.lampFault, g.val + 1, if Param.perPeriod s.prof g then 1 else 0)] s t ∧
              t.group g =
                { s.group g with
                  fault := if Param.perPeriod s.prof g then .transient else .latched
                  darkHold := true } ∧
              (∀ h, h ≠ g → t.group h = s.group h) ∧ lampOutput t g = false ∧
              t.load = { s.load with evalDue := true }))) ∧
        (falls →
          (∀ d, i = .upLimit d → limitLeft d true q t) ∧
          (∀ d, i = .downLimit d → limitLeft d false q t) ∧
          ((∃ p, i = .tripped p ∨ i = .sealWarning p) ∨ (∃ g, i = .driverFault g) ∨ i = .torque ∨
            i = .button .close ∨ i = .button .reopen ∨ i = .button .faultReset → t = q)) ∧
        (rises ∨ falls →
          (∀ f, i = .float f → floatActs f q t) ∧
          (i = .button .lampTest → lampTestActs q t) ∧
          (∀ b, i = .obstruction b → clearWaitJudged b q t))) ∧
    ((s.inputs.get i).timer.isRunning = false → exec (.debounceTimerExpiry i) s = .next s)

/-- R3, R10: a rising edge latches the timebase value of its moment in either Capture Phase; a falling edge in
AWAITING_RISE does nothing; a falling edge in AWAITING_FALL of an UNCALIBRATED channel writes Last Width, the
difference modulo 65536, and nothing else. -/
def Obligations.PulseCapture : Prop :=
  ∀ (s : State) (c : ChannelId), s.phase = .running →
    exec (.pulseRisingEdge c .onArrival) s =
      .next (s.setChannel c { s.channel c with beginTime := s.timebase, phase := .awaitingFall }) ∧
    ((s.channel c).phase = .awaitingRise → exec (.pulseFallingEdge c .onArrival) s = .next s) ∧
    ((s.channel c).phase = .awaitingFall → (s.channel c).state = .uncalibrated →
      exec (.pulseFallingEdge c .onArrival) s =
        .next (s.setChannel c
          { s.channel c with lastWidth := s.timebase - (s.channel c).beginTime, phase := .awaitingRise }))

/-- The row of R9 (with R7, R11, R13, R14) that a completed width `w` takes in a Channel Record `x`. -/
def sampleRow (v : Vector Word 256) (c : ChannelId) (w : Nat) (x : Channel) : Channel :=
  let sc := scaleWidth v c w
  let timer := Timer.running (Param.sampleTimeout v c)
  let dir := if x.reported < sc then SuspectDirection.up else .down
  let failed : Channel :=
    { x with state := .failed, failCause := .invalidSamples, sampleTimer := .stopped, invalidCount := 0,
             recoveryCount := 0, suspectCount := 0, suspectDir := .none }
  let loaded : Channel := { x with scaled := sc, filter := sc * 16, reported := sc }
  let f := filterStep (Param.filterShift v c) x.filter sc
  if Param.faultLow v c ≤ w ∧ w ≤ Param.faultHigh v c then
    match x.state with
    | .uncalibrated => x
    | .waiting =>
      { loaded with state := .healthy, invalidCount := 0, reloadPending := false, sampleTimer := timer }
    | .healthy =>
      if x.reloadPending then
        { loaded with invalidCount := 0, reloadPending := false, sampleTimer := timer }
      else if Param.stepLimit v c = 0 then
        { x with scaled := sc, invalidCount := 0, sampleTimer := timer, filter := f,
                 reported := (f + 8) / 16 }
      else if absDiff sc x.reported ≤ Param.stepLimit v c then
        { x with scaled := sc, invalidCount := 0, sampleTimer := timer, filter := f,
                 reported := (f + 8) / 16, suspectCount := 0, suspectDir := .none }
      else if x.suspectCount = 0 ∨ x.suspectDir ≠ dir then
        { x with scaled := sc, invalidCount := 0, sampleTimer := timer, suspectCount := 1,
                 suspectDir := dir }
      else if x.suspectCount = 1 then
        { x with scaled := sc, invalidCount := 0, sampleTimer := timer, suspectCount := 2 }
      else
        { loaded with invalidCount := 0, sampleTimer := timer, suspectCount := 0, suspectDir := .none }
    | .failed =>
      if x.recoveryCount < 2 then { x with scaled := sc, recoveryCount := x.recoveryCount + 1 }
      else { loaded with state := .healthy, recoveryCount := 0, invalidCount := 0, reloadPending := false,
                         sampleTimer := timer }
  else
    match x.state with
    | .uncalibrated => x
    | .waiting | .healthy =>
      if x.invalidCount < 2 then { x with invalidCount := x.invalidCount + 1 } else failed
    | .failed => { x with recoveryCount := 0 }

/-- What a Sump Level update leaves (R18, R20): the level and the source that the two sump channels give; no
rate without a level; a change of source starts the rate window again. -/
def sumpSelected (s t : State) : Prop :=
  let a := t.channels.sumpA
  let b := t.channels.sumpB
  let h (x : Channel) := x.state = ChannelState.healthy
  (h a → ¬ h b → t.sump.level = a.reported ∧ t.sump.source = .a) ∧
  (¬ h a → h b → t.sump.level = b.reported ∧ t.sump.source = .b) ∧
  (h a → h b → t.sump.level = max a.reported b.reported ∧ t.sump.source = .both) ∧
  (¬ h a → ¬ h b → t.sump.level = 0 ∧ t.sump.source = .floats) ∧
  t.sump.valid = (t.sump.source != .floats) ∧
  (t.sump.source = .floats → t.sump.rate = 0 ∧ t.sump.windowTimer = .stopped) ∧
  (t.sump.source ≠ .floats → t.sump.source ≠ s.sump.source →
    t.sump.rate = 0 ∧ t.sump.windowStart = t.sump.level ∧
    t.sump.windowTimer = .running (Param.rateWindow s.prof))

/-- What a Sump Level update does with the disagreement episode, `es` being among its reports (R19): it is open
exactly while both sump channels are HEALTHY and differ by more than Agreement Band, and SUMP_DISAGREE is
reported at its opening alone, with the channel of the higher value and the difference. -/
def sumpCompared (s t : State) (es : List Report) : Prop :=
  let a := t.channels.sumpA
  let b := t.channels.sumpB
  let apart := a.state = .healthy ∧ b.state = .healthy ∧
    (Param.agreementBand s.prof + a.reported < b.reported ∨
      Param.agreementBand s.prof + b.reported < a.reported)
  let opening := apart ∧ s.sump.disagreement = false
  (t.sump.disagreement = true ↔ apart) ∧
  (opening → (.sumpDisagree, if b.reported < a.reported then 1 else 2,
    max a.reported b.reported - min a.reported b.reported) ∈ es) ∧
  (¬ opening → ∀ r ∈ es, r.1 ≠ .sumpDisagree)

/-- What a stage evaluation by level leaves (R39, R40): a stage is called only above called stages, up to Max
Running Pumps; one that was not called from its effective start level on, one that was called above its Stop
Level; with Basis LEVEL. -/
def stagesByLevel (s t : State) : Prop :=
  ∀ k : StageId,
    let level : Int := t.sump.level
    let advance : Int := if k ≠ 0 ∧ (Param.rateCall s.prof : Int) ≤ t.sump.rate then
        Param.rateAdvance s.prof else 0
    ((t.stage k).called = true ↔
      (∀ j : StageId, j.val + 1 = k.val → (t.stage j).called = true) ∧
      k.val < min 4 (Param.maxRunning s.prof) ∧
      if (s.stage k).called then (Param.stopLevel s.prof s.gravitySet k : Int) < level
      else (Param.startLevel s.prof s.gravitySet k : Int) - advance ≤ level) ∧
    ((t.stage k).called = true → (t.stage k).basis = .level)

/-- A link holds the penstock, Backflow has come, and the target in force is not CLOSED (R124). -/
def overrides (s t : State) (k : Link) : Prop :=
  s.authority.penstock = .link k ∧ s.penstock.backflow = false ∧ t.penstock.backflow = true ∧
    s.penstock.target ≠ .closed

/-- What a penstock evaluation leaves, but for the expiry of the Open Delay Timer (R117 to R120, R124). -/
def waterJudged (s t : State) : Prop :=
  let river : Int := t.channels.river.reported
  let level : Int := t.sump.level
  let usable := t.channels.river.state = .healthy ∧ t.sump.valid = true
  (t.penstock.backflow = true ↔ (usable ∧ level + Param.closeMargin s.prof ≤ river)) ∧
  (t.penstock.openCond = true ↔ (usable ∧ river ≤ level - Param.openMargin s.prof)) ∧
  (usable → t.penstock.head = river - level) ∧ (¬ usable → t.penstock.head = 0) ∧
  (t.penstock.decideOpen = true ↔
    (s.profile.site = true ∧ usable ∧ t.penstock.backflow = false ∧ s.penstock.decideOpen = true)) ∧
  t.penstock.openDelay =
    (if t.penstock.decideOpen = true ∨ t.penstock.openCond = false then .stopped
    else if s.penstock.openDelay.isRunning then s.penstock.openDelay
    else .running (Param.openDelay s.prof)) ∧
  (s.authority.penstock = .auto →
    t.penstock.target = if t.penstock.decideOpen then .open else .closed) ∧
  (∀ k, overrides s t k →
    t.penstock.target = .closed ∧ t.authority.demands.action = .closed) ∧
  (s.authority.penstock ≠ .auto → (∀ k, ¬ overrides s t k) →
    t.penstock.target = s.penstock.target ∧ t.authority = s.authority)

/-- What the depth judgement leaves under a SITE profile (R129). -/
def depthJudged (s t : State) : Prop :=
  let deep := t.channels.carriageway.state = .healthy ∧
    Param.closureDepth s.prof ≤ t.channels.carriageway.reported
  (¬ deep → t.closure.depth = false ∧ t.closure.confirm = .stopped) ∧
  (deep → s.closure.depth = true ∨ s.closure.confirm.isRunning = true →
    t.closure.depth = s.closure.depth ∧ t.closure.confirm = s.closure.confirm) ∧
  (deep → s.closure.depth = false → s.closure.confirm.isRunning = false →
    (Param.confirmTime s.prof = 0 → t.closure.depth = true) ∧
    (0 < Param.confirmTime s.prof →
      t.closure.depth = false ∧ t.closure.confirm = .running (Param.confirmTime s.prof)))

/-- The stage that a luminance update leaves, from a stage between 1 and the highest installed (R78 to R80).
With LUMINANCE HEALTHY the stage goes up at once to the highest one reached, or else down by one where the
luminance is below its threshold less the hysteresis and the Dwell Timer has expired; otherwise it is the
highest installed. -/
def stageMoved (s t : State) : Prop :=
  let top := Param.installedStages s.prof
  let lum := t.channels.luminance.reported
  let reached (n : Nat) := n ≤ top ∧ n ≤ 8 ∧ Param.threshold s.prof n ≤ lum
  let up := ∃ n ∈ List.range 9, s.lighting.stage < n ∧ reached n
  (t.channels.luminance.state ≠ .healthy →
    t.lighting.stage = top ∧ t.lighting.stageLum = s.lighting.stageLum) ∧
  (t.channels.luminance.state = .healthy →
    t.lighting.stageLum = lum ∧
    (up → s.lighting.stage < t.lighting.stage ∧ reached t.lighting.stage ∧
      ∀ n ∈ List.range 9, t.lighting.stage < n → ¬ reached n) ∧
    (¬ up →
      t.lighting.stage =
        if (lum : Int) < (Param.threshold s.prof s.lighting.stage : Int) - Param.stageHysteresis s.prof ∧
            s.lighting.dwell.isRunning = false ∧ 1 < s.lighting.stage then s.lighting.stage - 1
        else s.lighting.stage))

/-- Every Requested Duty and Request Source is what R74 gives. -/
def requestsFormed (t : State) : Prop :=
  ∀ g, (t.group g).requested = (requestOf t g).1 ∧ (t.group g).source = (requestOf t g).2

/-- What a luminance update does, for a stage between 1 and the highest installed (R78 to R81): the stage is
judged; a change restarts the Dwell Timer, is reported, and re-forms every request. -/
def stageJudged (s t : State) (es : List Report) : Prop :=
  1 ≤ s.lighting.stage → s.lighting.stage ≤ Param.installedStages s.prof →
    stageMoved s t ∧
    (t.lighting.stage ≠ s.lighting.stage →
      t.lighting.dwell = .running (Param.stageDwell s.prof) ∧ (.stageChange, 0, t.lighting.stage) ∈ es ∧
      requestsFormed t) ∧
    (t.lighting.stage = s.lighting.stage →
      t.lighting.dwell = s.lighting.dwell ∧ t.lighting.groups = s.lighting.groups)

/-- The road re-closes from RAISING, from `s` to `t` (R140, R133, R136): to STOP with its barriers stopped
where an approach is not Red Proven, to HALTED where a barrier drive is FAULTED, and otherwise to LOWERING, or
from there at once to CLOSED or, past the obstruction retries, to HALTED. -/
def reclosed (s t : State) : Prop :=
  let faulted := ∃ b, (s.drive (.barrier b)).state = .faulted
  (bothRed s = false → t.closure.state = .stop ∧ t.closure.held = true ∧
    ∀ b, upLine t (.barrier b) = false ∧ downLine t (.barrier b) = false) ∧
  (bothRed s = true → faulted → t.closure.state = .halted ∧ t.closure.halt = .travelFault) ∧
  (bothRed s = true → ¬ faulted →
    t.closure.state = .lowering ∨ t.closure.state = .closed ∨ t.closure.state = .halted)

/-- The state that a re-close from RAISING enters first (R140, R136): STOP where an approach is not Red Proven,
HALTED where a barrier drive is FAULTED, LOWERING otherwise. -/
def reclosesInto (s : State) : ClosureState :=
  if bothRed s = false then .stop
  else if (s.drive (.barrier .one)).state = .faulted ∨ (s.drive (.barrier .two)).state = .faulted then .halted
  else .lowering

/-- An automatic trigger has acted on the road by the table of R131 (R132, R137, R140), no drive's fault being
cleared. -/
def triggerActed (s t : State) : Prop :=
  match s.closure.state with
  | .open => alerted s t
  | .raising => reclosed s t
  | .halted =>
    if s.closure.halt = .resetMidTravel then
      t.closure.state = .stop ∧ t.closure.halt = .none ∧ clearanceJudged s t ∧
      t.closure.obstructions = s.closure.obstructions ∧
      ∀ b, (s.drive (.barrier b)).state = .faulted → (t.drive (.barrier b)).state = .faulted ∧
        (t.drive (.barrier b)).fault = (s.drive (.barrier b)).fault
    else t.closure.state = .halted ∧ t.closure.halt = s.closure.halt
  | .alert | .stop | .lowering | .closed => t.closure.state = s.closure.state

/-- Trigger Active has been formed anew between `s` and `t` (R130, R131): it acts as it becomes true while the
road is not under HAND, and in no other case does the Closure State change. -/
def triggerJudged (s t : State) : Prop :=
  let onset := s.closure.trigger = false ∧ t.closure.trigger = true ∧ s.authority.road ≠ .hand
  (onset → triggerActed s t) ∧ (¬ onset → t.closure.state = s.closure.state)

/-- The sump backup trigger stands (R130). -/
def sumpBackedUp (t : State) : Prop :=
  t.channels.carriageway.state ≠ .healthy ∧ t.sump.valid = true ∧
    Param.sumpClosureLevel t.prof ≤ t.sump.level

/-- What the readers of a channel do once a sample of it has been processed or its State has changed, from `s`
before it to `t`, with `es` among the reports: a sump channel gives the Sump Summary (R18) and the disagreement
episode (R19), the stages by level under a SITE profile while the level is VALID (R39), the entry to float mode
(R42), SUMP_BACKUP (R130) and a penstock evaluation (R117); RIVER a penstock evaluation; CARRIAGEWAY the depth
judgement (R129) and, as its State changes, SUMP_BACKUP (R130); LUMINANCE the stage (R78). -/
def readersAct (s : State) (c : ChannelId) (t : State) (es : List Report) : Prop :=
  let sump := c = .sumpA ∨ c = .sumpB
  let changed := (t.channel c).state ≠ (s.channel c).state
  (sump →
    sumpSelected s t ∧ sumpCompared s t es ∧ waterJudged s t ∧
    (s.sump.source ≠ .floats → t.sump.source = .floats → (.floatMode, 0, 1) ∈ es ∧
      (s.profile.site = true → stagesServed t ∧ ∀ k,
        ((t.stage k).called = true ↔
          ((s.level (.float .stop) = true ∧ (s.stage k).called = true) ∨ latches s k)) ∧
        ((t.stage k).called = true → (t.stage k).basis = .float))) ∧
    (s.sump.source = .floats → t.sump.source ≠ .floats → (.floatMode, 0, 0) ∈ es) ∧
    (s.profile.site = true → t.sump.source ≠ .floats → stagesByLevel s t ∧ stagesServed t) ∧
    (s.profile.site = true → (t.closure.sumpBackup = true ↔ sumpBackedUp t))) ∧
  (c = .river → waterJudged s t) ∧
  (sump ∨ c = .river → ∀ k, overrides s t k → (.overridden, 5, linkIndex k) ∈ es) ∧
  (c = .carriageway → s.profile.site = true →
    depthJudged s t ∧
    (changed → (t.closure.sumpBackup = true ↔ sumpBackedUp t)) ∧
    (¬ changed → t.closure.sumpBackup = s.closure.sumpBackup)) ∧
  (sump ∨ c = .carriageway → triggerJudged s t) ∧
  (c = .luminance → changed ∨ (t.channel c).state = .healthy → stageJudged s t es) ∧
  (c = .luminance → ¬ changed → (t.channel c).state ≠ .healthy → t.lighting = s.lighting)

/-- R3, R9, R13, R14: a falling edge that completes a pulse writes Last Width and takes the channel through
the row of R9 for its State and the sample's validity, with CHANNEL_FAILED or CHANNEL_RESTORED as the first
report where the State becomes FAILED or is recovered; no other channel, no input, no profile and no link item
is changed. Then the readers of a channel that is not UNCALIBRATED act (`readersAct`: R18, R19, R39, R78 to R81,
R117, R129, R130, R131). A standing suspect run is kept by a sample under a Step Limit of 0 and by one that
reloads a channel after a commit (the model's choices, log 29). Stated where Red Proven is what the Proof States
give (R95), which every step keeps. -/
def Obligations.SampleActsByState : Prop :=
  ∀ (s : State) (c : ChannelId), RedDerived s → s.phase = .running →
    (s.channel c).phase = .awaitingFall →
    let w := (s.timebase - (s.channel c).beginTime).toNat
    let valid := Param.faultLow s.prof c ≤ w ∧ w ≤ Param.faultHigh s.prof c
    let x := s.channel c
    ∃ t es, exec (.pulseFallingEdge c .onArrival) s = .next t ∧
      Changes (.channels :: .sump :: plantBlocks) es s t ∧
      (∀ d, d ≠ c → t.channel d = s.channel d) ∧
      t.channel c = sampleRow s.prof c w
        { x with lastWidth := s.timebase - x.beginTime, phase := .awaitingRise } ∧
      ((x.state = .waiting ∨ x.state = .healthy) → ¬ valid → 2 ≤ x.invalidCount →
        es.head? = some (.channelFailed, channelNumber c, FailCause.invalidSamples.code)) ∧
      (x.state = .failed → valid → 2 ≤ x.recoveryCount →
        es.head? = some (.channelRestored, channelNumber c, scaleWidth s.prof c w)) ∧
      (x.state = .uncalibrated → es = []) ∧
      (x.state ≠ .uncalibrated → readersAct s c t es)

/-- R5, R6, R8: the Scaled Sample is the clamped width's offset times Range over Span Width, plus Mount, and
lies in [Mount, Mount + Range]; the filter moves toward its target, never passes it, reaches it at once with
k = 0, and rests when less than 2^k sixteenths remain. -/
def Obligations.SampleArithmetic : Prop :=
  ∀ (v : Vector Word 256) (c : ChannelId) (w k f sc : Nat), 0 < Param.spanWidth v c →
    (Param.mount v c ≤ scaleWidth v c w ∧ scaleWidth v c w ≤ Param.mount v c + Param.range v c) ∧
    (w ≤ Param.zeroWidth v c → scaleWidth v c w = Param.mount v c) ∧
    (Param.zeroWidth v c + Param.spanWidth v c ≤ w →
      scaleWidth v c w = Param.mount v c + Param.range v c) ∧
    (Param.zeroWidth v c ≤ w → w ≤ Param.zeroWidth v c + Param.spanWidth v c →
      scaleWidth v c w =
        (w - Param.zeroWidth v c) * Param.range v c / Param.spanWidth v c + Param.mount v c) ∧
    (f ≤ sc * 16 → f ≤ filterStep k f sc ∧ filterStep k f sc ≤ sc * 16) ∧
    (sc * 16 ≤ f → sc * 16 ≤ filterStep k f sc ∧ filterStep k f sc ≤ f) ∧
    filterStep 0 f sc = sc * 16 ∧
    (absDiff (sc * 16) f < 2 ^ k → filterStep k f sc = f)

/-- R13: the expiry of a running Sample Timer takes a WAITING or HEALTHY channel to FAILED with cause
SAMPLE_TIMEOUT; CHANNEL_FAILED is the first report, and the channel's readers act (`readersAct`: R18, R19, R42,
R80, R117, R129, R130). Stated where Red Proven is what the Proof States give (R95). -/
def Obligations.SampleTimeoutFails : Prop :=
  ∀ (s : State) (c : ChannelId), RedDerived s → s.phase = .running →
    (s.channel c).sampleTimer.isRunning = true →
    ((s.channel c).state = .waiting ∨ (s.channel c).state = .healthy) →
    ∃ t, exec (.sampleTimerExpiry c) s = .next t ∧
      (∃ es, Changes (.channels :: .sump :: plantBlocks)
          ((.channelFailed, channelNumber c, FailCause.sampleTimeout.code) :: es) s t ∧
        readersAct s c t es) ∧
      (∀ d, d ≠ c → t.channel d = s.channel d) ∧
      t.channel c =
        { s.channel c with
          state := .failed, failCause := .sampleTimeout, sampleTimer := .stopped, invalidCount := 0,
          recoveryCount := 0, suspectCount := 0, suspectDir := .none }

/-- R20, R48: a Window Timer at zero gives the Rate of Rise of its window by the window's own divisor and
starts the next window; a second of the Station Clock counts the clock and the Window Timer and removes the
Start History entries aged 3600 s or more. R25, R44: what the shorter histories let the pumps do follows in the
same event. A called stage is given to a pump that qualifies now, and an IDLE pump whose call stands, or that is
given a stage, enters QUEUED where it may; the called stages, the Duty Rotation and the pumps that are neither
IDLE nor QUEUED stay as they were. -/
def Obligations.ClockAndRateWindow : Prop :=
  ∀ (s : State), s.phase = .running →
    (s.sump.windowTimer.isRunning = true →
      exec .windowTimerExpiry s = .next { s with sump := { s.sump with
        rate := max (-9999) (min 9999
          (Int.tdiv (((s.sump.level : Int) - s.sump.windowStart) * 60) s.sump.windowLen))
        windowStart := s.sump.level
        windowTimer := .running (Param.rateWindow s.prof)
        windowLen := Param.rateWindow s.prof } }) ∧
    ∃ t, exec .stationClockSecond s = .next t ∧
      Changes [.pumps, .load] [] { s with
        stationClock := s.stationClock + 1, subSecond := 0
        sump := { s.sump with windowTimer := s.sump.windowTimer.tick } } t ∧
      let aged (p : PumpId) :=
        (s.pump p).history.dropWhile fun h => decide (3600 ≤ (s.stationClock + 1 - h).toNat)
      let x : State := { s with stationClock := s.stationClock + 1 }
      (∀ p, (t.pump p).history = aged p) ∧ t.rotation = s.rotation ∧ stagesServed t ∧
      (∀ k, (t.stage k).called = (s.stage k).called ∧ (t.stage k).basis = (s.stage k).basis) ∧
      ∀ p,
        (mayQueue x p → entered x t p) ∧
        ((s.pump p).state = .idle → s.authorityOf (.pump p) = .auto →
          (∃ k, (t.stage k).assigned = some p) → queueable x p →
          (t.pump p).state = .queued ∧ ((s.pump p).requeue = false → enteredAs .auto x t p)) ∧
        ((s.pump p).state ≠ .idle → (s.pump p).state ≠ .queued →
          t.pump p = { s.pump p with history := aged p })

/-! ## Pumps -/

/-- R27, R30: the expiry of Start Proof faults a STARTING pump with START_FAIL, and the expiry of Stop Proof a
STOPPING pump with FAIL_TO_STOP. -/
def Obligations.ProofTimersFault : Prop :=
  ∀ (s : State) (p : PumpId), s.phase = .running → (s.pump p).timer.isRunning = true →
    ((s.pump p).state = .starting →
      ∃ t, exec (.startProofExpiry p) s = .next t ∧ pumpFailed p .startFail s t) ∧
    ((s.pump p).state = .stopping →
      ∃ t, exec (.stopProofExpiry p) s = .next t ∧ pumpFailed p .failToStop s t)

/-- R28, R30: at the expiry of Min Run a RUNNING pump without a call stops with CALL_ENDED, into STOPPING
while RUN_PROVEN is active and on into RESTING otherwise; one whose call stands goes on running. R31, R25, R36,
R44, R55: at the expiry of Min Rest a RESTING pump enters IDLE, and in the same event enters QUEUED, in its place
in the Start Queue, where it is startable, RUN_PROVEN is inactive, the Active Budget is not 0 and its call stands:
under HAND its key is at HAND, under a link its demand is RUN, and under AUTO it has a stage or is given one now.
-/
def Obligations.RunAndRestEnd : Prop :=
  ∀ (s : State) (p : PumpId), s.phase = .running → (s.pump p).timer.isRunning = true →
    ((s.pump p).state = .running →
      ∃ t, exec (.minRunExpiry p) s = .next t ∧ Changes [.pumps, .load] [] s t ∧
        t.pump p =
          { s.pump p with
            history := pruneHistory s.stationClock (s.pump p).history
            state := if s.call p ≠ .none then .running
              else if s.runProven p then .stopping else .resting
            stopCause := if s.call p ≠ .none then (s.pump p).stopCause else .callEnded
            timer := if s.call p ≠ .none then .expired
              else if s.runProven p then .running (Param.stopProof s.prof p)
              else .running (Param.minRest s.prof p) }) ∧
    ((s.pump p).state = .resting →
      ∃ t, exec (.minRestExpiry p) s = .next t ∧ Changes [.pumps, .load] [] s t ∧
        (t.pump p).timer = .stopped ∧ stagesServed t ∧
        let ready := 0 < s.load.budget ∧ s.installed p = true ∧ s.level (.float .dry) = true ∧
          s.runProven p = false ∧
          (pruneHistory s.stationClock (s.pump p).history).length < Param.maxStarts s.prof p
        let served (u : State) := ∃ k, (u.stage k).assigned = some p
        (¬ ready → (t.pump p).state = .idle) ∧
        (ready →
          match s.authorityOf (.pump p) with
          | .hand =>
            if s.keyHand p then enteredAs .hand s t p else (t.pump p).state = .idle
          | .link _ =>
            if s.authority.demands.pumpRun[p] then enteredAs .link s t p else (t.pump p).state = .idle
          | .auto =>
            (served s → served t) ∧ (served t → enteredAs .auto s t p) ∧
            (¬ served t → (t.pump p).state = .idle)))

/-- R27, R58, R31, R29, R30, R25: RUN_PROVEN becoming active takes a STARTING pump to RUNNING, with Min Run
and the stagger timer started and a load evaluation due, and an IDLE, QUEUED or RESTING one to STOPPING with
UNCOMMANDED, its entry withdrawn. RUN_PROVEN becoming inactive fails a RUNNING pump with RUN_LOST while the
supply is not DEAD, takes a STOPPING one to RESTING, and lets an IDLE one enter QUEUED that meets the
conditions of R25. In any other State a change has no effect. -/
def Obligations.RunProvenStartsRun : Prop :=
  ∀ (s : State) (p : PumpId), s.phase = .running →
    (s.inputs.get (.runProven p)).timer.isRunning = true →
    let q := qualified s (.runProven p)
    ∃ t, exec (.debounceTimerExpiry (.runProven p)) s = .next t ∧
      ((s.inputs.get (.runProven p)).pin = true → s.level (.runProven p) = false →
        match (s.pump p).state with
        | .starting => Changes [.pumps, .load] [] q t ∧
          t.pump p =
            { s.pump p with
              state := .running, timer := .running (Param.minRun s.prof p)
              history := pruneHistory s.stationClock (s.pump p).history } ∧
          t.load.stagger = .running (Param.startStagger s.prof) ∧ t.load.evalDue = true
        | .idle | .queued | .resting => Changes [.pumps, .load] [] q t ∧
          t.pump p = stopRecord q p .uncommanded ∧ (t.pump p).state = .stopping ∧
          ∀ e ∈ t.load.queue, e.pump ≠ p
        | .running | .stopping | .faulted => t = q) ∧
      ((s.inputs.get (.runProven p)).pin = false → s.level (.runProven p) = true →
        match (s.pump p).state with
        | .running => if s.load.supply = .dead then t = q else pumpFailed p .runLost q t
        | .stopping => Changes [.pumps, .load] [] q t ∧
          t.pump p =
            { s.pump p with
              state := .resting, timer := .running (Param.minRest s.prof p)
              history := pruneHistory s.stationClock (s.pump p).history }
        | .idle => Changes [.pumps, .load] [] q t ∧ (mayQueue q p → entered q t p)
        | .queued | .starting | .resting | .faulted => t = q)

/-- R50, R51, R38, R63, R68: the Supply State is derived again at a change of MAINS_HEALTHY or
GENERATOR_ON_LOAD, and a change that leaves it as it was does nothing. When the last contact opens it is DEAD
with an Active Budget of 0, no settle timer and no blocking episode, every pump in STARTING or RUNNING stands
in IDLE with SUPPLY_LOST, and all run lines are off. When a supply returns, or MAINS and GENERATOR change
over, the settle timer starts from DEAD and otherwise stands as it was, and a load evaluation is due.
SUPPLY_CHANGE is the one report. That the budget is 0 before the next load evaluation (log 17) and that a pump
at its start limit gives up its stage as the supply dies (log 30) are the model's choices; the stage is stated
for the others. -/
def Obligations.SupplyLossIdlesPumps : Prop :=
  ∀ (s : State) (mains : Bool),
    let i := if mains then InputId.mainsHealthy else .generatorOnLoad
    let q := qualified s i
    let new : Supply := if q.level .generatorOnLoad then .generator
      else if q.level .mainsHealthy then .mains else .dead
    let report : Report := (.supplyChange, 0, new.code)
    s.phase = .running → (s.inputs.get i).timer.isRunning = true →
    (s.inputs.get i).pin ≠ (s.inputs.get i).level →
    ∃ t, exec (.debounceTimerExpiry i) s = .next t ∧
      (new = s.load.supply → t = q) ∧
      (new ≠ s.load.supply → new ≠ .dead →
        Changes [.load] [report] q t ∧
        t.load =
          { s.load with
            supply := new, evalDue := true
            settle := if s.load.supply ≠ .dead then s.load.settle
              else if Param.settleTime s.prof = 0 then .expired
              else .running (Param.settleTime s.prof) }) ∧
      (new ≠ s.load.supply → new = .dead →
        Changes [.pumps, .load] [report] q t ∧
        t.load.supply = .dead ∧ t.load.budget = 0 ∧ t.load.settle = .stopped ∧
        t.load.episode = none ∧ t.load.hold = .stopped ∧
        (∀ p, runLine t p = false) ∧
        ∀ p, (s.pump p).isOn = true →
          (t.pump p).state = .idle ∧ (t.pump p).stopCause = .supplyLost ∧ (t.pump p).timer = .stopped ∧
          (t.pump p).history = pruneHistory s.stationClock (s.pump p).history ∧
          ((t.pump p).history.length < Param.maxStarts s.prof p →
            ∀ k, (s.stage k).assigned = some p → (t.stage k).assigned = some p))

/-! ## Load and start permit -/

/-- R51, R58, R68: the settle and stagger timers' expiries start a load evaluation; the hold timer's expiry in a
blocking episode appends START_HELD with the head pump and the shortfall, saturated at 65535. The values it
takes between a commit and its load evaluation, and 0 for a difference below 0, are the model's choice (log 34).
-/
def Obligations.LoadTimersExpire : Prop :=
  ∀ (s : State) (p : PumpId), s.phase = .running →
    (s.load.settle.isRunning = true →
      exec .settleTimerExpiry s =
        .next { s with load := { s.load with settle := .expired, evalDue := true } }) ∧
    (s.load.stagger.isRunning = true →
      exec .staggerTimerExpiry s =
        .next { s with load := { s.load with stagger := .expired, evalDue := true } }) ∧
    (s.load.hold.isRunning = true → s.load.episode = some p →
      exec .holdTimerExpiry s =
        .next (State.append .startHeld (p.val + 1)
          (min 65535 (s.load.committed + headStart s - s.load.budget))
          { s with load := { s.load with hold := .expired, heldAppended := true } }))

/-- The pump at the head of the Start Queue as steps 2 to 8 of a load evaluation find it (R54, R63): the one that
the evaluation starts, or else the head that it leaves. -/
def headFound (s t : State) : Option PumpId :=
  (allPumps.find? fun p => (s.pump p).state != .starting && (t.pump p).state == .starting).or
    (t.load.queue.head?.map (·.pump))

/-- R52, R53, R64, R75: what a load evaluation leaves. The Active Budget is that of the supply; the Reserve is
the starting load of the head that it finds (`headFound`), pumps that the budget lets in being entered first (R63;
log 21); the allowance is the budget less the pump part less the Reserve, not below 0; the Committed Load is the
pump part plus the lamp groups' loads, rounded up, at their granted duties. The pump part is the Rated Load of
every pump left RUNNING and the starting load of one left in STARTING, but not of the pump that the evaluation's
own grant starts. Pump part and Reserve are stated while the Start Queue holds QUEUED pumps only, the rest for a
profile in which each group is reached by its Priority (R178 requires a permutation). -/
def Obligations.LoadEvaluationSettles : Prop :=
  ∀ (s : State), s.phase = .running → (∀ g, g ∈ groupsByPriority s) →
    ∃ t, exec .loadEvaluation s = .next t ∧ Touches [.pumps, .load, .lighting] s t ∧
      t.load.budget = supplyBudget s ∧
      ((∀ e ∈ s.load.queue, (s.pump e.pump).state = .queued) →
        t.load.pumpPart = (allPumps.map fun p =>
          if (t.pump p).state = .running then Param.ratedLoad s.prof p
          else if (t.pump p).state = .starting ∧ (s.pump p).state = .starting then
            Param.ratedLoad s.prof p * Param.inrush s.prof / 10
          else 0).sum ∧
        t.load.reserve =
          match headFound s t with
          | none => 0
          | some p => Param.ratedLoad s.prof p * Param.inrush s.prof / 10) ∧
      t.load.headStart = t.load.reserve ∧
      t.load.allowance = t.load.budget - t.load.pumpPart - t.load.reserve ∧
      t.load.committed = t.load.pumpPart + t.load.lampPart ∧
      t.load.lampPart = (allGroups.map fun g => (t.group g).grantedLoad).sum ∧
      (∀ g, (t.group g).grantedLoad = (Param.fullLoad s.prof g * (t.group g).granted + 999) / 1000) ∧
      (∀ g, (t.group g).requested = (s.group g).requested ∧ (t.group g).fault = (s.group g).fault ∧
        (t.group g).applied = (s.group g).applied)

/-- The pump whose run permit a load evaluation of `s` withdraws next, once those of `gone` are withdrawn (R60,
R61, R62): the STARTING pump while, on a live supply, the load with the lamps at the duties then granted exceeds
the Active Budget; with none STARTING, a RUNNING pump while, on a settled supply, the pump part alone exceeds it;
and in the same order while more pumps are on than Max Running Pumps. The RUNNING pump is the latest in the Grant
Order that is not under HAND, or with all under HAND the latest. `head` is the pump for which the Reserve is
held. -/
def permitNamed (s : State) (head : Option PumpId) (gone : List PumpId) (p : PumpId) : Prop :=
  let starting (q : PumpId) := (s.pump q).state = .starting ∧ q ∉ gone
  let running (q : PumpId) := (s.pump q).state = .running ∧ q ∉ gone
  let part := (allPumps.map fun q =>
    if starting q then Param.ratedLoad s.prof q * Param.inrush s.prof / 10
    else if running q then Param.ratedLoad s.prof q else 0).sum
  let reserve := match head with
    | none => 0
    | some q => Param.ratedLoad s.prof q * Param.inrush s.prof / 10
  let overloads := ∃ d, sharedOut s (supplyBudget s - part - reserve) d ∧
    supplyBudget s < part + (allGroups.map fun g => lampLoad s g (d g)).sum
  let tooMany := Param.maxRunning s.prof < (allPumps.filter fun q => decide (starting q ∨ running q)).length
  let eligible (q : PumpId) := running q ∧
    (s.authorityOf (.pump q) ≠ .hand ∨ ∀ r, running r → s.authorityOf (.pump r) = .hand)
  (starting p ∧ ((s.load.supply ≠ .dead ∧ overloads) ∨ tooMany)) ∨
  ((∀ q, ¬ starting q) ∧ eligible p ∧
    (∃ earlier later, s.load.grantOrder = earlier ++ p :: later ∧ ∀ q ∈ later, ¬ eligible q) ∧
    ((s.load.supply ≠ .dead ∧ s.load.settle.isRunning = false ∧ supplyBudget s < part) ∨ tooMany))

/-- What a load evaluation has done with the pumps of `taken`, whose run permits it withdrew in that order, and
with the others that were on (R37, R45, R60 to R62). An aborted start goes to STOPPING with ABORTED, loses its
newest Start History entry, has Requeue At Head set and is reported; a RUNNING pump is shed; each keeps its stage,
and goes on to RESTING where RUN_PROVEN is inactive (R30). A pump not taken stays on as it was. -/
def permitsTaken (taken : List PumpId) (s t : State) : Prop :=
  (∀ before p after, taken = before ++ p :: after → permitNamed s (headFound s t) before p) ∧
  (∀ p, ¬ permitNamed s (headFound s t) taken p) ∧
  Changes [.pumps, .load, .lighting]
    ((taken.filter fun p => (s.pump p).state == .starting).map fun p => (.pumpStartAborted, p.val + 1, 0)) s t ∧
  (∀ p ∈ taken,
    t.pump p =
      (if (s.pump p).state = .starting then
        { stopRecord s p .aborted with
          requeue := true
          history := pruneHistory s.stationClock (s.pump p).history.dropLast }
      else stopRecord s p .shed) ∧
    runLine t p = false ∧ p ∉ t.load.grantOrder ∧
    ∀ k, (s.stage k).assigned = some p → (t.stage k).assigned = some p) ∧
  ∀ p, p ∉ taken → (s.pump p).isOn = true →
    t.pump p = { s.pump p with history := pruneHistory s.stationClock (s.pump p).history }

/-- R37, R60, R61, R62: a load evaluation withdraws run permits one after another, each of the pump that
`permitNamed` gives, until it gives none, and does with them what `permitsTaken` says; stated where every pump
that waits in the Start Queue is QUEUED, at most one is in STARTING, and each group is reached by its Priority. So
it leaves no pump in STARTING while the Committed Load exceeds the Active Budget on a live supply, no more pumps
on than Max Running Pumps, and, once the supply has settled, a pump part no greater than the budget. -/
def Obligations.LoadEvaluationSheds : Prop :=
  ∀ (s : State), s.phase = .running → GrantOrderHolds s →
    ∃ t, exec .loadEvaluation s = .next t ∧
      (s.load.supply ≠ .dead → t.load.budget < t.load.committed → ∀ p, (t.pump p).state ≠ .starting) ∧
      countOn t ≤ Param.maxRunning s.prof ∧
      (s.load.supply ≠ .dead → s.load.settle.isRunning = false → t.load.pumpPart ≤ t.load.budget) ∧
      (OneStart s → (∀ e ∈ s.load.queue, (s.pump e.pump).state = .queued) →
        (∀ g, g ∈ groupsByPriority s) → (groupsByPriority s).Nodup →
        ∃ taken, permitsTaken taken s t)

/-- R65, R66: a load evaluation grants the duties that `sharedOut` gives for its allowance: in ascending Priority
full requests while they fit, then one partial grant, then the floors. So it grants 0 to a group in driver fault
and every other group a duty between its effective floor and its request; together the grants take no more load
than the allowance, or than the floors where those exceed it, in which case every group that takes part has its
floor. A group whose Full Load is 0 has its request even there (the model's choice, log 31). -/
def Obligations.DistributionFits : Prop :=
  ∀ (s : State), s.phase = .running → (∀ g, g ∈ groupsByPriority s) → (groupsByPriority s).Nodup →
    let floor (g : GroupId) := min (Param.floorDuty s.prof g) (s.group g).requested
    let floors := ((allGroups.filter fun g => (s.group g).fault == .none).map fun g =>
      (Param.fullLoad s.prof g * floor g + 999) / 1000).sum
    ((groupsByPriority s).Pairwise fun g h => Param.priority s.prof g < Param.priority s.prof h) ∧
    ∃ t, exec .loadEvaluation s = .next t ∧
      sharedOut s t.load.allowance (fun g => (t.group g).granted) ∧
      (∀ g, (s.group g).fault ≠ .none → (t.group g).granted = 0) ∧
      (∀ g, (s.group g).fault = .none →
        floor g ≤ (t.group g).granted ∧ (t.group g).granted ≤ (s.group g).requested ∧
        (Param.fullLoad s.prof g = 0 → (t.group g).granted = (s.group g).requested) ∧
        (t.load.allowance < floors → 0 < Param.fullLoad s.prof g → (t.group g).granted = floor g)) ∧
      t.load.lampPart ≤ max t.load.allowance floors

/-- `q` is the Start Queue of `s` as a load evaluation leaves it for its grant (R63): the entries that stay, a QUEUED
pump that is not startable having been withdrawn (R25), and an entry for every IDLE pump that may enter QUEUED
under the new Active Budget, its call being that of `t`. R55 places the new entries among the others, and R25
orders those of one class among themselves, where neither has Requeue At Head set; the order is stated of a queue
whose HAND entries stand in front, as R55 keeps it. -/
def waitingEntered (s t : State) (q : List QueueEntry) : Prop :=
  let x : State := { s with load := { s.load with budget := supplyBudget s } }
  let stays (e : QueueEntry) := s.installed e.pump && s.level (.float .dry) &&
    decide ((pruneHistory s.stationClock (s.pump e.pump).history).length < Param.maxStarts s.prof e.pump)
  let waits (p : PumpId) := (s.pump p).state = .idle ∧ t.call p ≠ .none ∧ queueable x p
  let entry (p : PumpId) : QueueEntry := { pump := p, source := t.call p, queuedAt := s.stationClock }
  let hand (e : QueueEntry) := e.source = Call.hand
  let before (e f : QueueEntry) := [e, f].Sublist q
  let rank (p : PumpId) := if t.call p = .auto then ((t.stageOf p).map (·.val)).getD 0 else 4 + p.val
  (∀ e ∈ s.load.queue, stays e = true → e ∈ q) ∧ (∀ p, waits p → entry p ∈ q) ∧
  (∀ e ∈ q, (e ∈ s.load.queue ∧ stays e = true) ∨ (waits e.pump ∧ e = entry e.pump)) ∧
  (handsFirst s.load.queue → handsFirst q ∧ (s.load.queue.filter stays).Sublist q ∧
    (∀ p, waits p → ∀ e ∈ s.load.queue, stays e = true →
      if (hand (entry p) ∧ ¬ hand e) ∨ ((s.pump p).requeue = true ∧ (hand (entry p) ∨ ¬ hand e))
      then before (entry p) e else before e (entry p)) ∧
    ∀ p r, waits p → waits r → (hand (entry p) ↔ hand (entry r)) → (s.pump r).requeue = false →
      (s.pump p).requeue = true ∨ rank p < rank r → before (entry p) (entry r))

/-- What step 8 of a load evaluation leaves (R68), `q` being the Start Queue that the grant found: a head that the
load condition of R57 holds back on a settled live supply has a blocking episode, which keeps its hold timer where
it stood before and starts it from 30 s where it opens now; otherwise no episode stands. -/
def episodeJudged (s t : State) (q : List QueueEntry) : Prop :=
  let head (l : List QueueEntry) := l.head?.map (·.pump)
  let blocked := ∃ p, head t.load.queue = some p ∧ s.load.supply ≠ .dead ∧ s.load.settle.isRunning = false ∧
    t.load.budget < t.load.committed + startingLoad s p
  (blocked → t.load.episode = head t.load.queue ∧
    if t.load.queue = q ∧ head q = head s.load.queue ∧ s.load.episode = head q then
      t.load.hold = s.load.hold ∧ t.load.heldAppended = s.load.heldAppended
    else t.load.hold = .running 3000 ∧ t.load.heldAppended = false) ∧
  (¬ blocked → t.load.episode = none ∧ t.load.hold = .stopped ∧ t.load.heldAppended = false)

/-- R57, R26: a load evaluation starts only the pump at the head of the Start Queue `q` that it finds, and only
when no other pump is STARTING, the stagger timer has expired, a running slot is free, its starting load fits the
budget and a supply is present; when these hold with no start under way, it starts that pump, with the Station
Clock added to its Start History and the pump at the tail of the Grant Order; its entry leaves the queue. R63: `q`
holds the pumps that the Active Budget lets in, entered before the grant (`waitingEntered`; that they are entered
within this evaluation is the model's reading, log 21). R68: then the blocking episode and its hold timer stand as
`episodeJudged` says. The last two are stated where every pump that waits in the Start Queue is QUEUED. -/
def Obligations.GrantRule : Prop :=
  ∀ (s : State), s.phase = .running →
    ∃ t q, exec .loadEvaluation s = .next t ∧
      (t.load.queue = q ∨ ∃ p, (t.pump p).state = .starting ∧ (q.head?.map (·.pump)) = some p ∧
        t.load.queue = q.filter fun e => e.pump != p) ∧
      (∀ p, (s.pump p).state ≠ .starting → (t.pump p).state = .starting →
        (q.head?.map (·.pump)) = some p ∧ s.load.supply ≠ .dead ∧
        s.load.stagger.isRunning = false ∧
        t.load.committed + startingLoad s p ≤ t.load.budget ∧ countOn t ≤ Param.maxRunning s.prof ∧
        (∀ e ∈ t.load.queue, e.pump ≠ p) ∧ ∀ r, r ≠ p → (t.pump r).state ≠ .starting) ∧
      (∀ p, (q.head?.map (·.pump)) = some p → s.load.supply ≠ .dead →
        s.load.stagger.isRunning = false → (∀ r, (s.pump r).state ≠ .starting) →
        countOn s < Param.maxRunning s.prof →
        t.load.committed + startingLoad s p ≤ t.load.budget →
        (t.pump p).state = .starting ∧
        (t.pump p).timer = .running (Param.startProof s.prof p) ∧
        (t.pump p).history = pruneHistory s.stationClock ((s.pump p).history ++ [s.stationClock]) ∧
        t.load.grantOrder.getLast? = some p) ∧
      ((∀ e ∈ s.load.queue, (s.pump e.pump).state = .queued) → waitingEntered s t q ∧ episodeJudged s t q)

/-! ## Lighting and signals -/

/-- R71, R73, R83: at a boundary the counter stands at 0 and Period In Use takes the Lighting Period; every group
takes its Phase Offset; a group without a fault takes its Granted Duty as its Applied Duty and clears Dark Hold;
a group in driver fault has Applied Duty 0, and a TRANSIENT fault whose input is inactive ends with Dark Hold
left as it is and makes a load evaluation due. R72: a group's output is lit while the counter is less than the
on-time past the start position, modulo the period, and dark in driver fault or under Dark Hold. -/
def Obligations.BoundaryLoadsDuties : Prop :=
  ∀ (s : State), s.phase = .running →
    (∃ t, exec .lightingPeriodBoundary s = .next t ∧ Changes [.lighting, .load] [] s t ∧
      t.load = { s.load with evalDue :=
        s.load.evalDue || allGroups.any fun g => (s.group g).fault == .transient && !s.level (.driverFault g) } ∧
      t.lighting = { s.lighting with counter := 0, periodInUse := Param.lightingPeriod s.prof,
                                     groups := t.lighting.groups } ∧
      ∀ g, t.group g =
        if (s.group g).fault = .none then
          { s.group g with offset := Param.phaseOffset s.prof g, applied := (s.group g).granted,
                           darkHold := false }
        else
          { s.group g with
            offset := Param.phaseOffset s.prof g, applied := 0
            fault := if (s.group g).fault = .transient ∧ s.level (.driverFault g) = false then .none
              else (s.group g).fault }) ∧
    ∀ g,
      let period := s.lighting.periodInUse
      let onTime := period * (s.group g).applied / 1000
      let start := period * (s.group g).offset / 1000
      let past := if start ≤ s.lighting.counter then s.lighting.counter - start
        else s.lighting.counter + period - start
      s.lighting.counter < period → (s.group g).offset ≤ 1000 →
      (lampOutput s g = true ↔
        ((s.group g).fault = .none ∧ (s.group g).darkHold = false ∧ past < onTime))

/-- R79, R81: when the lighting Dwell Timer expires with LUMINANCE HEALTHY and no move up, the stage goes down
by one if the luminance is below its threshold less the hysteresis (with STAGE_CHANGE, the dwell restarted and
every request re-formed), and otherwise the timer stays expired. -/
def Obligations.DwellExpiryStepsDown : Prop :=
  ∀ (s : State), s.phase = .running → s.lighting.dwell.isRunning = true →
    s.channels.luminance.state = .healthy → 1 < s.lighting.stage →
    s.lighting.stage ≤ Param.installedStages s.prof →
    (∀ n, s.lighting.stage < n → n ≤ Param.installedStages s.prof → n ≤ 8 →
      s.channels.luminance.reported < Param.threshold s.prof n) →
    ∃ t, exec .lightingDwellTimerExpiry s = .next t ∧
      t.lighting.stageLum = s.channels.luminance.reported ∧
      if (s.channels.luminance.reported : Int) <
          (Param.threshold s.prof s.lighting.stage : Int) - Param.stageHysteresis s.prof then
        Changes [.lighting, .load] [(.stageChange, 0, s.lighting.stage - 1)] s t ∧
        t.lighting.stage = s.lighting.stage - 1 ∧
        t.lighting.dwell = .running (Param.stageDwell s.prof) ∧
        ∀ g, (t.group g).requested = (requestOf t g).1 ∧ (t.group g).source = (requestOf t g).2
      else
        Changes [.lighting] [] s t ∧ t.lighting.stage = s.lighting.stage ∧
        t.lighting.dwell = .expired ∧ t.lighting.groups = s.lighting.groups

/-- R88: at the wrap the Flash Position is 0, Flash Period In Use takes the Flash Period, every Checked flag
is clear, and nothing else changes. -/
def Obligations.FlashCycleBegins : Prop :=
  ∀ (s : State), s.phase = .running →
    ∃ t, exec .flashCycleWrap s = .next t ∧ Changes [.signals] [] s t ∧
      t.signals = { s.signals with position := 0, periodInUse := Param.flashPeriod s.prof,
                                   channels := t.signals.channels } ∧
      ∀ n, t.signal n = { s.signal n with checked := false }

/-- R89: when a channel's output is lit. FLASH_A and FLASH_B are never lit together; with an odd period
FLASH_B is lit for one millisecond more; FLASH_B set at position 200 of a 1000 ms cycle is dark until 500;
while reset is held every output is dark. -/
def Obligations.SignalOutputLit : Prop :=
  ∀ (s : State) (n : SignalId) (period pos : Nat),
    (s.phase = .running → s.signals.position < s.signals.periodInUse →
      (s.displayed n = .dark → signalOutput s n = false) ∧
      (s.displayed n = .steady → signalOutput s n = true) ∧
      (s.displayed n = .flashA →
        (signalOutput s n = true ↔ s.signals.position < s.signals.periodInUse / 2)) ∧
      (s.displayed n = .flashB →
        (signalOutput s n = true ↔ s.signals.periodInUse / 2 ≤ s.signals.position))) ∧
    ¬ (litAt .flashA period pos = true ∧ litAt .flashB period pos = true) ∧
    (period % 2 = 1 → period - period / 2 = period / 2 + 1) ∧
    (200 ≤ pos → (litAt .flashB 1000 pos = true ↔ 500 ≤ pos)) ∧
    (s.phase = .held → signalOutput s n = false)

/-- R92, R94, R95, R133, R134: at a check position, every channel whose check is due and whose Proof State is not
DARK takes its row of R92 by its bit of `sense`; no other channel changes; Red Proven is derived from the Proof
States left. SIGNAL_FAILED is reported for each channel that enters FAILED, with its Displayed Aspect (among
several, in the order of their numbers: the model's choice, log 14). In STOP, a change of Red Proven starts the
Clearance Timer from its full time, with Held clear, where both approaches are proved now, and holds it
otherwise. In LOWERING, a loss of Red Proven stops the barriers and takes the road to STOP with its Clearance
Timer held. In no other case does the Closure record change. LOWERING is stated with the aspects that R128 gives
it and both approaches proved. -/
def Obligations.CheckProvesLamps : Prop :=
  ∀ (s : State) (pos : Word) (sense : BitVec 8), s.phase = .running →
    s.signals.position ≤ pos.toNat → pos.toNat < s.signals.periodInUse →
    (s.closure.state = .lowering →
      RedDerived s ∧ s.signals.redProven1 = true ∧ s.signals.redProven2 = true ∧
      s.signals.lampTest = false ∧ ∀ n : SignalId, (s.signal n).commanded = (aspectsOf .lowering)[n]) →
    let due (n : SignalId) := checkPositionOf (s.displayed n) s.signals.periodInUse = some pos.toNat ∧
      (s.signal n).checked = false
    let absent (n : SignalId) := due n ∧ sense.getLsbD n.val = false ∧
      ((s.signal n).proof = .unproven ∨ (s.signal n).proof = .proven)
    ∃ t, exec (.checkPosition pos sense) s = .next t ∧
      t.signals.position = pos.toNat ∧
      (t.signals.redProven1 = true ↔ ((t.signal 0).proof = .proven ∨ (t.signal 1).proof = .proven)) ∧
      (t.signals.redProven2 = true ↔ ((t.signal 3).proof = .proven ∨ (t.signal 4).proof = .proven)) ∧
      (∀ n,
        let x := s.signal n
        (¬ due n → t.signal n = x) ∧
        (due n → sense.getLsbD n.val = true →
          t.signal n = { x with checked := true, lastSense := .present, proof := .proven, miss := 0 }) ∧
        (due n → sense.getLsbD n.val = false → x.proof = .failed →
          t.signal n = { x with checked := true, lastSense := .absent }) ∧
        (absent n → x.miss = 0 →
          t.signal n = { x with checked := true, lastSense := .absent, miss := 1 }) ∧
        (absent n → x.miss = 1 →
          t.signal n = { x with checked := true, lastSense := .absent, proof := .failed, miss := 0,
                                failFlag := true })) ∧
      ∃ failed : List SignalId,
        failed.Sublist [0, 1, 2, 3, 4, 5, 6, 7] ∧ (∀ n, n ∈ failed ↔ (absent n ∧ (s.signal n).miss = 1)) ∧
        let reports : List Report := failed.map fun n => (.signalFailed, n.val + 1, (s.displayed n).code)
        let lost := s.closure.state = .lowering ∧ ¬ (t.signals.redProven1 = true ∧ t.signals.redProven2 = true)
        let moved := t.signals.redProven1 ≠ s.signals.redProven1 ∨ t.signals.redProven2 ≠ s.signals.redProven2
        (¬ lost → Changes [.signals, .gates, .closure] reports s t ∧
          (s.closure.state = .stop → moved → clearanceJudged s t ∧
            t.closure = { s.closure with clearance := t.closure.clearance, held := t.closure.held }) ∧
          (s.closure.state ≠ .stop ∨ ¬ moved → t.closure = s.closure)) ∧
        (lost →
          Changes [.signals, .gates, .closure]
            (reports ++ [(.closureState, 0, ClosureState.stop.code)]) s t ∧
          t.closure.state = .stop ∧ t.closure.held = true ∧ t.closure.clearance = .stopped ∧
          ∀ b, upLine t (.barrier b) = false ∧ downLine t (.barrier b) = false)

/-! ## Gate drives and penstock -/

/-- R101, R99, R103, R107, R113: when the Dwell Timer of a drive in DWELL expires, the motor starts in the
Pending Direction with a full Travel Timer (and, for the penstock, a full Stall Timer), unless a case of R99
completes the command or a barrier may not go down; in any other Drive State the timer reads 0 and nothing
else happens at the drives. -/
def Obligations.DwellExpiryStartsMotor : Prop :=
  ∀ (s : State) (d : DriveId) (up : Bool), s.phase = .running → (s.drive d).dwell.isRunning = true →
    ((s.drive d).state = .dwell → (s.drive d).pending = (if up then Direction.up else .down) →
      s.limit d up = false →
      (∀ b, d = .barrier b → up = false →
        (s.drive d).permit = true ∧ s.level (.obstruction b) = false) →
      (d = .penstock →
        (up = false → s.gates.stem.seatFlag = false) ∧
        ∀ n, s.gates.stem.stopCount = some n →
          if up then s.gates.stem.count < n else n < s.gates.stem.count) →
      ∃ t, exec (.dwellTimerExpiry d) s = .next t ∧ Touches [.gates, .closure] s t ∧
        t.closure = { s.closure with advised := t.closure.advised } ∧
        t.drive d =
          { s.drive d with
            state := if up then .drivingUp else .drivingDown
            pending := .none, arrival := .none, dwell := .expired
            travel := .running (Param.travelTime s.prof d) } ∧
        (∀ e, e ≠ d → t.drive e = s.drive e) ∧ upLine t d = up ∧ downLine t d = !up ∧
        t.gates.stem =
          (if d = .penstock then
            { s.gates.stem with
              stall := .running (Param.stallTime s.prof)
              seatFlag := s.gates.stem.seatFlag && !up }
          else s.gates.stem)) ∧
    ((s.drive d).state ≠ .dwell →
      ∃ t, exec (.dwellTimerExpiry d) s = .next t ∧ Touches [.gates, .closure] s t ∧
        t.closure = { s.closure with advised := t.closure.advised } ∧
        t.drive d = { s.drive d with dwell := .expired } ∧
        (∀ e, e ≠ d → t.drive e = s.drive e) ∧ t.gates.stem = s.gates.stem)

/-- A drive has been faulted out of a motion with a cause (R98, R105): motor off, timers stopped but the dwell
restarted in the direction it drove, nothing pending. -/
def motionFaulted (d : DriveId) (cause : DriveFault) (s t : State) : Prop :=
  t.drive d =
    { s.drive d with
      state := .faulted, fault := cause, pending := .none, arrival := .none, travel := .stopped
      dwell := .running (Param.reversalDwell s.prof)
      lastDir := if (s.drive d).state = .drivingUp then .up else .down
      permit := (t.drive d).permit } ∧
  upLine t d = false ∧ downLine t d = false

/-- R103, R105, R113, R136: the expiry of a driving drive's Travel Timer faults it with TRAVEL_TIMEOUT, that of
the driving penstock's Stall Timer with STALL, and DRIVE_FAULT is the first report; a barrier's fault sends a
road in LOWERING or RAISING to HALTED with TRAVEL_FAULT. -/
def Obligations.MotionTimersFault : Prop :=
  ∀ (s : State) (d : DriveId), s.phase = .running → (s.drive d).isDriving = true →
    ((s.drive d).travel.isRunning = true →
      ∃ t, exec (.travelTimerExpiry d) s = .next t ∧
        (∃ es, Changes [.signals, .gates, .closure]
          ((.driveFault, driveIndex d, DriveFault.travelTimeout.code) :: es) s t) ∧
        motionFaulted d .travelTimeout s t ∧
        (d ≠ .penstock → (s.closure.state = .lowering ∨ s.closure.state = .raising) →
          t.closure.state = .halted ∧ t.closure.halt = .travelFault)) ∧
    (d = .penstock → s.gates.stem.stall.isRunning = true →
      ∃ t, exec .stallTimerExpiry s = .next t ∧
        Changes [.gates] [(.driveFault, 3, DriveFault.stall.code)] s t ∧
        motionFaulted .penstock .stall s t ∧
        t.gates.stem = { s.gates.stem with stall := .stopped, stopCount := none })

/-- R109, R112, R114: an accepted edge moves the Position Count by one, saturated, up when the pair (A, B)
steps along (0,0), (1,0), (1,1), (0,1), (0,0) and down otherwise; the reference stays; the Seat Flag clears
when the count rises above the Seat Band of its judgement (R115), and only then; a motion whose Stop Count is
reached stops with Arrival COUNT (stated while the target is not CLOSED, where R122 may command the drive
again). -/
def Obligations.EncoderEdgeCounts : Prop :=
  ∀ (s : State) (e : EncoderChannel), s.phase = .running →
    let a := s.gates.stem.encA
    let b := s.gates.stem.encB
    let a' := if e = .a then !a else a
    let b' := if e = .b then !b else b
    let opening := [(false, false, true, false), (true, false, true, true), (true, true, false, true),
      (false, true, false, false)].contains (a, b, a', b')
    let n := if opening then min 65535 (s.gates.stem.count + 1) else s.gates.stem.count - 1
    ∃ t, exec (.acceptedEdge e) s = .next t ∧ Touches [.gates] s t ∧
      t.gates.stem.count = n ∧ t.gates.stem.encA = a' ∧ t.gates.stem.encB = b' ∧
      t.gates.stem.referenced = s.gates.stem.referenced ∧
      (t.gates.stem.seatFlag = true ↔
        (s.gates.stem.seatFlag = true ∧ ¬ (s.gates.stem.count < n ∧ s.gates.stem.seatBand < n))) ∧
      t.gates.stem.seatBand = s.gates.stem.seatBand ∧
      (∀ b, t.drive (.barrier b) = s.drive (.barrier b)) ∧
      (∀ m, s.gates.stem.stopCount = some m → s.penstock.target ≠ .closed →
        ((s.gates.penstock.state = .drivingUp ∧ m ≤ n) ∨
          (s.gates.penstock.state = .drivingDown ∧ n ≤ m)) →
        Changes [.gates] [(.driveArrived, 3, Arrival.count.code)] s t ∧
        t.gates.penstock.state = .stopped ∧ t.gates.penstock.arrival = .count ∧
        t.gates.stem.stopCount = none ∧
        t.gates.penstock.dwell = .running (Param.reversalDwell s.prof))

/-- R110, R122: a double transition keeps the count and takes both encoder levels; a REFERENCED penstock
becomes UNREFERENCED with its Seat Flag clear and REFERENCE_LOST as the first report; under a POSITION target
the target becomes CLOSED, and a holding link's Action word CLOSED. -/
def Obligations.DoubleTransitionLosesReference : Prop :=
  ∀ (s : State), s.phase = .running →
    ∃ t, exec .doubleTransition s = .next t ∧ Touches [.gates, .penstock, .authority] s t ∧
      t.gates.stem.count = s.gates.stem.count ∧ t.gates.stem.encA = !s.gates.stem.encA ∧
      t.gates.stem.encB = !s.gates.stem.encB ∧ t.gates.stem.referenced = false ∧
      t.gates.stem.seatFlag = false ∧
      (s.gates.stem.referenced = true →
        (∃ es, Changes [.gates, .penstock, .authority]
          ((.referenceLost, 3, s.gates.stem.count) :: es) s t) ∧
        (s.penstock.target = .position →
          t.penstock.target = .closed ∧
          ∀ k, s.authority.penstock = .link k → t.authority.demands.action = .closed)) ∧
      (s.penstock.target ≠ .position → s.authority = t.authority ∧ s.penstock = t.penstock)

/-- R117, R118, R119, R120: when the Open Delay Timer expires under a SITE profile with the Open Condition true
and no Backflow, the AUTO Decision is OPEN with the timer stopped; under AUTO the target follows it, and a
STOPPED drive free of its dwell and away from its open limit starts opening. -/
def Obligations.OpenDelayOpensPenstock : Prop :=
  ∀ (s : State), s.phase = .running → s.penstock.openDelay.isRunning = true → s.profile.site = true →
    s.channels.river.state = .healthy → s.sump.valid = true →
    s.channels.river.reported < s.sump.level + Param.closeMargin s.prof →
    s.channels.river.reported + Param.openMargin s.prof ≤ s.sump.level →
    ∃ t, exec .openDelayTimerExpiry s = .next t ∧ Touches [.gates, .penstock, .authority] s t ∧
      t.penstock.decideOpen = true ∧ t.penstock.openDelay = .stopped ∧ t.penstock.backflow = false ∧
      t.penstock.head = (s.channels.river.reported : Int) - s.sump.level ∧
      (s.authority.penstock = .auto →
        t.penstock.target = .open ∧
        (s.penstock.target ≠ .open → s.gates.penstock.state = .stopped →
          s.gates.penstock.dwell.isRunning = false → s.limit .penstock true = false →
          t.gates.penstock.state = .drivingUp ∧
          t.gates.penstock.travel = .running (Param.travelTime s.prof .penstock))) ∧
      (s.authority.penstock ≠ .auto → t.penstock.target = s.penstock.target)

/-! ## Road -/

/-- A Trigger Flag has been set in `x` where none stood before, and `t` is what comes of it (R131): under AUTO
or a link the trigger acts; under HAND it does not, and CLOSURE_ADVISED with the flag's code is reported once
where the advised condition holds. -/
def triggered (flag : Nat) (bs : List Block) (x t : State) : Prop :=
  let advises := x.closure.state = .open ∨ x.closure.state = .raising ∨
    (x.closure.state = .halted ∧ x.closure.halt = .resetMidTravel)
  (x.authority.road ≠ .hand →
    triggerActed x t ∧
    (x.closure.state = .open →
      Changes (bs ++ [.signals, .gates, .closure]) [(.closureState, 0, ClosureState.alert.code)] x t) ∧
    (advises →
      let into : ClosureState := match x.closure.state with
        | .open => .alert
        | .raising => reclosesInto x
        | .alert | .stop | .lowering | .closed | .halted => .stop
      ∃ es, Changes (bs ++ [.signals, .gates, .closure]) ((.closureState, 0, into.code) :: es) x t) ∧
    (¬ advises → Changes (bs ++ [.closure]) [] x t ∧ t.closure = { x.closure with advised := false })) ∧
  (x.authority.road = .hand →
    (advises → t.closure = { x.closure with advised := true } ∧
      Changes (bs ++ [.closure]) (if x.closure.advised then [] else [(.closureAdvised, 0, flag)]) x t) ∧
    (¬ advises → t.closure = { x.closure with advised := false } ∧ Changes (bs ++ [.closure]) [] x t))

/-- R129, R130, R131, R132, R128: the expiry of the Confirm Timer sets DEPTH, and a change of the ROAD_FLOOD
float sets or clears ROAD_FLOOD, the pumps taking the change as `floatActs` says. Where no trigger stood, a
flag set acts as `triggered` says: an OPEN road under AUTO or a link enters ALERT with its aspects, a full
Alert Timer and no obstruction counted, a RAISING one re-closes, one halted by a reset in mid travel goes to
STOP, and under HAND the road stays as it is with CLOSURE_ADVISED reported for the lowest flag. A flag set
while a trigger stands, or cleared, leaves the Closure State as it was. Stated where Red Proven is what the Proof
States give (R95). -/
def Obligations.ConfirmStartsClosure : Prop :=
  ∀ (s : State), RedDerived s → s.phase = .running →
    let flood := InputId.float .roadFlood
    let level := (s.inputs.get flood).pin
    let deep := s.modClosure fun y => { y with depth := true, confirm := .expired }
    let q := qualified s flood
    let x := q.modClosure fun y => { y with roadFlood := level }
    (s.closure.confirm.isRunning = true →
      ∃ t, exec .confirmTimerExpiry s = .next t ∧ t.closure.depth = true ∧ t.closure.confirm = .expired ∧
        (s.closure.trigger = false → triggered 0 [] deep t) ∧
        (s.closure.trigger = true → s.closure.advised = advisedNow s → t = deep)) ∧
    ((s.inputs.get flood).timer.isRunning = true → level ≠ (s.inputs.get flood).level →
      ∃ t, exec (.debounceTimerExpiry flood) s = .next t ∧ t.closure.roadFlood = level ∧
        floatActs .roadFlood q t ∧
        (level = true → s.closure.trigger = false → triggered 2 [.pumps, .load] x t) ∧
        (level = false ∨ s.closure.trigger = true →
          (s.closure.advised = true ∨ advisedNow x = false) →
          Changes [.pumps, .load, .closure] [] x t ∧
          t.closure = { x.closure with advised := advisedNow x }))

/-- R132, R128, R133, R93: the expiry of the Alert Timer takes an ALERT road to STOP with reds and signs STEADY and
ambers DARK; reds that were dark are UNPROVEN, Red Proven is false, and the Clearance Timer is held; whatever
they were, it runs at once where both approaches are proved, and is held otherwise. -/
def Obligations.AlertEndsInStop : Prop :=
  ∀ (s : State), s.phase = .running → s.closure.state = .alert → s.closure.alert.isRunning = true →
    ∃ t, exec .alertTimerExpiry s = .next t ∧
      Changes [.signals, .gates, .closure] [(.closureState, 0, ClosureState.stop.code)] s t ∧
      t.closure.state = .stop ∧ t.closure.halt = .none ∧ t.closure.alert = .stopped ∧
      t.signals.lampTest = false ∧ clearanceJudged s t ∧
      (∀ n : SignalId, (t.signal n).commanded =
        (#v[Aspect.steady, .steady, .dark, .steady, .steady, .dark, .steady, .steady])[n]) ∧
      ((∀ n : SignalId, n = 0 ∨ n = 1 ∨ n = 3 ∨ n = 4 → s.displayed n = .dark) →
        (∀ n : SignalId, n = 0 ∨ n = 1 ∨ n = 3 ∨ n = 4 → (t.signal n).proof = .unproven) ∧
        t.signals.redProven1 = false ∧ t.signals.redProven2 = false ∧
        t.closure.held = true ∧ t.closure.clearance = .stopped)

/-- R133, R134, R136, R107: the expiry of the Clearance Timer takes a STOP road to HALTED with TRAVEL_FAULT
while a barrier drive is FAULTED, and otherwise to LOWERING, or from there at once to CLOSED or, past the
obstruction retries, to HALTED with OBSTRUCTION_LIMIT. With both approaches proved and both barriers STOPPED: on
their down limits the road is CLOSED; free of their dwell, away from their down limits and unobstructed, both
phases are DESCENDING, both Down Permits true and both barriers driven down. -/
def Obligations.ClearanceEndsInLowering : Prop :=
  ∀ (s : State), s.phase = .running → s.closure.state = .stop → s.closure.clearance.isRunning = true →
    let faulted := ∃ b, (s.drive (.barrier b)).state = .faulted
    let proved := s.signals.lampTest = false ∧
      (∀ n : SignalId, (s.signal n).commanded = (aspectsOf .stop)[n]) ∧
      ((s.signal 0).proof = .proven ∨ (s.signal 1).proof = .proven) ∧
      ((s.signal 3).proof = .proven ∨ (s.signal 4).proof = .proven) ∧
      ∀ b, (s.drive (.barrier b)).state = .stopped
    ∃ t, exec .clearanceTimerExpiry s = .next t ∧ Touches [.signals, .gates, .closure] s t ∧
      t.closure.held = false ∧ t.closure.clearance = .stopped ∧
      (faulted → t.closure.state = .halted ∧ t.closure.halt = .travelFault) ∧
      (¬ faulted →
        (t.closure.state = .lowering ∧ t.closure.halt = .none) ∨
        (t.closure.state = .closed ∧ t.closure.halt = .none) ∨
        (t.closure.state = .halted ∧ t.closure.halt = .obstructionLimit)) ∧
      (proved → (∀ b, s.limit (.barrier b) false = true) → t.closure.state = .closed) ∧
      (proved →
        (∀ b, (s.drive (.barrier b)).dwell.isRunning = false ∧
          s.limit (.barrier b) false = false ∧ s.level (.obstruction b) = false) →
        Changes [.signals, .gates, .closure] [(.closureState, 0, ClosureState.lowering.code)] s t ∧
        t.closure.state = .lowering ∧ t.closure.phase1 = .descending ∧ t.closure.phase2 = .descending ∧
        t.signals.channels = s.signals.channels ∧
        ∀ b, t.drive (.barrier b) =
          { s.drive (.barrier b) with
            state := .drivingDown, pending := .none, arrival := .none, permit := true
            travel := .running (Param.travelTime s.prof (.barrier b)) })

/-- R135: the expiry of a Clear Wait Timer in LOWERING takes its barrier from CLEAR_WAIT to DESCENDING; a
permitted, STOPPED barrier, free of its dwell, away from its down limit and unobstructed is driven down; the
other barrier is undisturbed. -/
def Obligations.ClearWaitEndsInDescent : Prop :=
  ∀ (s : State) (b : Barrier), s.phase = .running → s.closure.state = .lowering →
    (s.closure.clearWait b).isRunning = true → s.closure.phase b = .clearWait →
    (s.drive (.barrier b)).permit = true → (s.drive (.barrier b)).state = .stopped →
    (s.drive (.barrier b)).dwell.isRunning = false → s.limit (.barrier b) false = false →
    s.level (.obstruction b) = false →
    ∃ t, exec (.clearWaitTimerExpiry b) s = .next t ∧ Changes [.gates, .closure] [] s t ∧
      t.closure.state = .lowering ∧ t.closure.phase b = .descending ∧
      t.closure.clearWait b = .expired ∧ t.closure.obstructions = s.closure.obstructions ∧
      t.drive (.barrier b) =
        { s.drive (.barrier b) with
          state := .drivingDown, pending := .none, arrival := .none
          travel := .running (Param.travelTime s.prof (.barrier b)) } ∧
      (∀ c, c ≠ b → t.closure.phase c = s.closure.phase c ∧
        t.drive (.barrier c) = s.drive (.barrier c)) ∧
      t.drive .penstock = s.drive .penstock

/-! ## Links -/

/-- R160, R161, R151, R177, R173: the expiry of an ACTIVE link's Silence Timer makes it SILENT with its cursor
absent and LINK_SILENT the first report; every unit it held is under AUTO, each with its AUTHORITY_CHANGE in
index order, and no other unit's authority changes; an edit it owned is abandoned, or runs on ownerless while
its write is in flight; the other link keeps everything but its unread count and MISSED; and then, while the
other link has a cursor, the entries that cursor has passed are removed from the front, and without one none
is. -/
def Obligations.SilenceReturnsUnits : Prop :=
  ∀ (s : State) (k : Link), s.phase = .running → (s.link k).state = .active →
    (s.link k).silence.isRunning = true →
    ∃ t es, exec (.silenceTimerExpiry k) s = .next t ∧
      t.link k = { s.link k with state := .silent, silence := .stopped, unread := none } ∧
      (∀ j, j ≠ k → t.link j =
        { s.link j with unread := (t.link j).unread, missed := (t.link j).missed }) ∧
      (∀ u, t.authorityOf u = if s.authorityOf u = .link k then .auto else s.authorityOf u) ∧
      (s.profile.owner = some k →
        t.profile = if s.profile.commit = .writing then { s.profile with owner := none }
          else { s.profile with owner := none, outcome := .abandoned }) ∧
      (s.profile.owner ≠ some k → t.profile = s.profile) ∧
      t.inputs = s.inputs ∧ t.channels = s.channels ∧ t.sump = s.sump ∧ attention t k = false ∧
      (es.filter fun (e : Report) => e.1 == .authorityChange) =
        (allUnits.filter fun u => s.authorityOf u == .link k).map
          (fun u => (.authorityChange, u.index, Authority.auto.code)) ∧
      let silent := s.modLink k fun x => { x with state := .silent, silence := .stopped, unread := none }
      let u := State.appendAll ((.linkSilent, linkIndex k, 0) :: es) silent
      t.link (otherLink k) = u.link (otherLink k) ∧ t.events.nextSeq = u.events.nextSeq ∧
      t.events.entries =
        match (u.link (otherLink k)).unread with
        | none => u.events.entries
        | some n => u.events.entries.drop (u.events.entries.length - n)

/-- A Channel Record `x` after a commit that replaces the words `old` by `new` (R10, R16): a changed calibration
clamps Filter Value and Reported Value and sets Reload Pending, and an UNCALIBRATED channel is clamped and is
WAITING. -/
def channelCommitted (old new : Vector Word 256) (c : ChannelId) (x : Channel) : Channel :=
  let changed : Bool := Param.zeroWidth old c != Param.zeroWidth new c ||
    Param.spanWidth old c != Param.spanWidth new c || Param.range old c != Param.range new c ||
    Param.mount old c != Param.mount new c
  let f := min (max x.filter (16 * Param.mount new c)) (16 * (Param.mount new c + Param.range new c))
  let y : Channel := { x with reloadPending := x.reloadPending || changed }
  if x.state = .uncalibrated then
    { y with
      filter := f, reported := (f + 8) / 16, state := .waiting, invalidCount := 0, recoveryCount := 0
      sampleTimer := .running (Param.sampleTimeout new c) }
  else if changed then { y with filter := f, reported := (f + 8) / 16 }
  else y

/-- The Start History of a pump after a commit: cut to Max Starts, the oldest entries going, and aged (R48). -/
def historyCommitted (q : State) (p : PumpId) : List Clock :=
  let h := (q.pump p).history
  pruneHistory q.stationClock (h.drop (h.length - Param.maxStarts q.prof p))

/-- What a commit does to the Pump Sequencer (R23, R41), from `s`, which is `q` under the new profile, to `t`.
Stages above the new number of usable stages are released, and the others stay called. A pump no longer
Installed leaves the Duty Rotation and its stage; on, it stops with REMOVED, and QUEUED, it is withdrawn. A pump
that becomes Installed under AUTO joins the Duty Rotation. A RUNNING pump whose stage is released stops with
CALL_ENDED once its Min Run has expired, and a pump that none of this concerns runs on. -/
def pumpsCommitted (s q t : State) : Prop :=
  let usable := min 4 (Param.maxRunning q.prof)
  let released (p : PumpId) := ∃ k : StageId, usable ≤ k.val ∧ (s.stage k).called = true ∧
    (s.stage k).assigned = some p
  (∀ k : StageId,
    (k.val < usable → (t.stage k).called = (s.stage k).called ∧ (t.stage k).basis = (s.stage k).basis) ∧
    (usable ≤ k.val → (t.stage k).called = false ∧
      ((s.stage k).called = true → (t.stage k).basis = .none ∧ (t.stage k).assigned = none))) ∧
  ∀ p,
    let kept := (t.pump p).state = (s.pump p).state ∧ (t.pump p).timer = (s.pump p).timer
    let stopped (c : StopCause) := t.pump p =
      { stopRecord q p c with requeue := false, history := historyCommitted q p }
    (s.installed p = true → q.installed p = false →
      p ∉ t.rotation ∧
      ((∀ j k, (s.stage j).assigned = some p → (s.stage k).assigned = some p → j = k) →
        ∀ k, (t.stage k).assigned ≠ some p) ∧
      ((s.pump p).isOn = true → stopped .removed) ∧
      ((s.pump p).state = .queued → withdrawn t p) ∧
      ((s.pump p).isOn = false → (s.pump p).state ≠ .queued → kept)) ∧
    (s.installed p = false → q.installed p = true →
      s.authorityOf (.pump p) = .auto → (s.pump p).state ≠ .faulted → p ∈ t.rotation) ∧
    (q.installed p = true → (s.pump p).state = .running → released p →
      ((s.pump p).timer.isRunning = false → stopped .callEnded) ∧
      ((s.pump p).timer.isRunning = true → kept)) ∧
    (s.installed p = q.installed p → ¬ released p → (s.pump p).isOn = true → kept)

/-- What a commit does to the Stage Selector (R82), from `q`, the state under the new profile, to `t`: a stage
above the new Installed Stages moves to the highest installed one, any other is judged by the new thresholds and
hysteresis; a change is reported and restarts the Dwell Timer, which otherwise runs on; and every request is
formed from the new duties. -/
def stageCommitted (q t : State) (es : List Report) : Prop :=
  let top := Param.installedStages q.prof
  1 ≤ q.lighting.stage → 1 ≤ top →
    requestsFormed t ∧
    (top < q.lighting.stage → t.lighting.stage = top) ∧
    (q.lighting.stage ≤ top → stageMoved q t) ∧
    (t.lighting.stage ≠ q.lighting.stage →
      t.lighting.dwell = .running (Param.stageDwell q.prof) ∧ (.stageChange, 0, t.lighting.stage) ∈ es) ∧
    (t.lighting.stage = q.lighting.stage → t.lighting.dwell = q.lighting.dwell)

/-- R179, R10, R16, R23, R41, R48, R82, R115, R143: an NV write that fails leaves the Active Profile, sets NV_FAIL
and reports PROFILE_NV_FAIL; one that succeeds makes the staging words the Active Profile with source SITE and
their CRC stored, closes the edit and reports PROFILE_COMMITTED first; every UNCALIBRATED channel is then
WAITING, a load evaluation is due (R70), and where the source was SITE every authority stands (R151). With no
write in flight nothing happens. The blocks' own rules at a commit: every channel by R16 (`channelCommitted`),
every Start History by R48; and, where no link holds a unit under BUILTIN, which none can (R145), the Stage
Selector by R82 (`stageCommitted`). With no sump channel leaving UNCALIBRATED, or the sump on FLOATS before and
after, the pumps act by R23 and R41 (`pumpsCommitted`; that Installed is acted on before the stages are released
is the model's choice, log 14). With neither a sump channel nor CARRIAGEWAY leaving UNCALIBRATED, the closure,
the signals and the barriers stay as they were (R143, R115), and the penstock is judged by the new margins (R117
to R120). -/
def Obligations.NvWriteCompletes : Prop :=
  ∀ (s : State) (ok : Bool), s.phase = .running →
    (s.profile.commit ≠ .writing → exec (.nvWriteComplete ok) s = .next s) ∧
    (s.profile.commit = .writing →
      exec (.nvWriteComplete false) s =
        .next (State.append .profileNvFail (linkIndex s.profile.committer) 0
          { s with profile := { s.profile with commit := .idle, outcome := .nvFail } }) ∧
      ∃ t es, exec (.nvWriteComplete true) s = .next t ∧
        Changes (.channels :: .sump :: .profile :: plantBlocks) es s t ∧
        es.head? = some (.profileCommitted, linkIndex s.profile.committer,
          (crcOfWords s.profile.staging).toNat) ∧
        t.profile =
          { s.profile with
            active := s.profile.staging, site := true, crc := crcOfWords s.profile.staging
            nvWords := s.profile.staging, nvCrc := some (crcOfWords s.profile.staging)
            commit := .idle, owner := none, outcome := .committed } ∧
        (∀ c, (s.channel c).state = .uncalibrated → (t.channel c).state = .waiting ∧
          (t.channel c).sampleTimer = .running (Param.sampleTimeout s.profile.staging c)) ∧
        (∀ c, (s.channel c).state ≠ .uncalibrated → (t.channel c).state = (s.channel c).state) ∧
        t.load.evalDue = true ∧
        (s.profile.site = true → ∀ u, t.authorityOf u = s.authorityOf u) ∧
        let q : State := { s with profile := t.profile }
        let sumpStays := ∀ c, c = .sumpA ∨ c = .sumpB → (s.channel c).state ≠ .uncalibrated
        let onFloats := s.sump.source = .floats ∧
          ∀ c, c = .sumpA ∨ c = .sumpB → (s.channel c).state ≠ .healthy
        (∀ c, t.channel c = channelCommitted s.prof s.profile.staging c (s.channel c)) ∧
        (∀ p, (t.pump p).history = historyCommitted q p) ∧
        (s.profile.site = true ∨ (∀ u k, s.authorityOf u ≠ .link k) →
          stageCommitted q t es ∧
          (sumpStays ∨ onFloats → pumpsCommitted s q t) ∧
          (sumpStays → s.channels.carriageway.state ≠ .uncalibrated →
            t.closure = s.closure ∧ t.signals = s.signals ∧
            (∀ b, t.drive (.barrier b) = s.drive (.barrier b)) ∧ waterJudged q t)))

/-- The rows that are valid frames, by the part of the frame and the bytes after the command byte. -/
def frameRows (k : Link) : List (FramePart → List Byte → Instr) :=
  [fun p b => .status ⟨k, p⟩ b.length, fun p b => .ackRestart ⟨k, p⟩ b.length,
    fun p b => .hardReset ⟨k, p⟩ b.length, fun p => .setPointerRead ⟨k, p⟩, fun p => .setPointerWrite ⟨k, p⟩,
    fun p => .setMode ⟨k, p⟩, fun p b => .readInc ⟨k, p⟩ b.length, fun p b => .readFixed ⟨k, p⟩ b.length,
    fun p b => .readRecord ⟨k, p⟩ b.length, fun p => .writeInc ⟨k, p⟩, fun p => .writeFixed ⟨k, p⟩]

/-- R162, R164: a frame that is not valid changes nothing but the bytes shifted out, the Link Status byte and
then 0; in STARTING every valid frame but a one-byte HARD_RESET is refused without a record, with 0 shifted out
after the Link Status byte. A select asserted while reset is held, or still asserted after a reset, begins no
frame, and the link ignores it until it has been released. That a frame's beginning, while select is asserted in
a frame, has no effect is the model's choice (log 8). -/
def Obligations.IgnoredFrames : Prop :=
  ∀ (s : State) (k : Link) (c : Byte) (i : Instr) (part : FramePart) (n : Nat),
    let released := s.modLink k fun x => { x with select := .released }
    let isFrame := frameOf i = some (⟨k, part⟩, n) ∨ i = .invalidFrame ⟨k, part⟩ (some (c, n)) ∨
      i = .invalidFrame ⟨k, part⟩ none
    (s.phase ≠ .held → (s.link k).select = .released →
      exec (.invalidFrame ⟨k, .whole⟩ none) s =
        .next (s.modLink k fun x => { x with dataOut := [statusByte s k] }) ∧
      (isDefinedCommand c = false →
        exec (.invalidFrame ⟨k, .whole⟩ (some (c, n))) s =
          .next (s.modLink k fun x => { x with dataOut := statusByte s k :: List.replicate n 0 }))) ∧
    (s.phase = .starting → (s.link k).select = .released → frameOf i = some (⟨k, .whole⟩, n) →
      i ≠ .hardReset ⟨k, .whole⟩ 0 →
      exec i s =
        .next (s.modLink k fun x => { x with dataOut := statusByte s k :: List.replicate n 0 })) ∧
    (s.phase = .held → (s.link k).select = .released → isFrame →
      (part = .whole → exec i s = .next s) ∧
      (part = .first → exec i s = .next (s.modLink k fun x => { x with select := .ignored }))) ∧
    ((s.link k).select = .ignored → isFrame →
      exec i s = .next (if part = .last then released else s)) ∧
    (∀ d use, (s.link k).select = .framing d use → isFrame → part = .whole ∨ part = .first →
      exec i s = .next s)

/-- R160, R161, R162, R164, R165: STATUS shifts out the Link Status byte again in every byte, newly formed; a
longer HARD_RESET frame does nothing; ACK_RESTART makes a RESTARTED link ACTIVE; SET_POINTER and SET_MODE act
on the pointers and the mode when their last byte completes, or are refused, and a frame that ends before
changes neither. Each first restarts an ACTIVE link's Silence Timer or makes a SILENT link ACTIVE (`begun`). A
whole frame is one moment here, and a frame may be given in parts between which other commands come, each byte
acting at its own moment: the model's choice, log 8. The bytes shifted out are those of `dataOut` (log 16). -/
def Obligations.LinkCommandFrames : Prop :=
  ∀ (s : State) (k : Link) (n : Nat) (hi lo m : Byte) (rest : List Byte) (read : Bool),
    s.phase = .running →
    let st := statusByte s k
    let u := begun s k
    let x := u.link k
    let a := hi.toNat * 256 + lo.toNat
    let pointer (bytes : List Byte) := if read then Instr.setPointerRead ⟨k, .whole⟩ bytes
      else .setPointerWrite ⟨k, .whole⟩ bytes
    let out (bytes : List Byte) := u.modLink k fun x => { x with dataOut := st :: bytes }
    ((s.link k).select = .released →
      exec (.status ⟨k, .whole⟩ n) s = .next (out (List.replicate n (statusByte u k))) ∧
      exec (.hardReset ⟨k, .whole⟩ (n + 1)) s = .next (out (List.replicate (n + 1) 0)) ∧
      (exec (.ackRestart ⟨k, .whole⟩ n) s = .next
        ((if x.state = .restarted then activated u k else u).modLink k fun x =>
          { x with dataOut := st :: List.replicate n 0 })) ∧
      ((s.link k).fifo = [] → rest.length ≤ 1 →
        exec (pointer rest) s = .next (out (List.replicate rest.length 0))) ∧
      ((s.link k).fifo = [] → a ≤ 0x3FF →
        exec (pointer (hi :: lo :: rest)) s = .next (u.modLink k fun x =>
          { x with
            dataOut := st :: List.replicate (rest.length + 2) 0
            readPtr := if x.split && !read then x.readPtr else BitVec.ofNat 10 a
            writePtr := if x.split && read then x.writePtr else BitVec.ofNat 10 a })) ∧
      ((s.link k).fifo = [] → 0x3FF < a →
        exec (pointer (hi :: lo :: rest)) s = .next (u.modLink k fun x =>
          { x with
            dataOut := st :: List.replicate (rest.length + 2) 0
            refAddr := x.writePtr, refReason := .outOfRange, refValue := 0, refusal := true })) ∧
      ((s.link k).fifo ≠ [] →
        exec (pointer rest) s = .next (u.modLink k fun x =>
          { x with
            dataOut := st :: List.replicate rest.length 0
            refAddr := x.writePtr, refReason := .busy, refValue := 0, refusal := true })) ∧
      exec (.setMode ⟨k, .whole⟩ []) s = .next (out []) ∧
      exec (.setMode ⟨k, .whole⟩ (m :: rest)) s = .next (u.modLink k fun x =>
        let y := { x with dataOut := st :: List.replicate (rest.length + 1) 0 }
        if m = 0 then { y with split := false, writePtr := x.readPtr }
        else if m = 1 then { y with split := true }
        else { y with refAddr := 0, refReason := .outOfRange, refValue := 0, refusal := true })) ∧
    ((s.link k).select = .framing 0x01 .status →
      exec (.status ⟨k, .middle⟩ n) s = .next (s.modLink k fun x =>
        { x with dataOut := x.dataOut ++ List.replicate n st })) ∧
    (∀ row ∈ frameRows k, ∀ b1 b2, (s.link k).select = .released →
      ∃ t v, exec (row .first b1) s = .next t ∧ exec (row .last b2) t = exec (row .whole (b1 ++ b2)) s ∧
        exec (row .middle b2) t = .next v ∧ exec (row .first (b1 ++ b2)) s = .next v)

/-- The Link Port after `m` advances of its Read Pointer (R165). -/
def readAdvanced (m : Nat) (x : LinkPort) : LinkPort :=
  { x with readPtr := x.readPtr + BitVec.ofNat 10 m
           writePtr := if x.split then x.writePtr else x.writePtr + BitVec.ofNat 10 m }

/-- A timer in a field of one word whose unit is `n` of the timer's own steps (12). -/
def shownIn (n : Nat) : Timer → Nat
  | .stopped => 65535
  | .expired => 0
  | .running x => (x + n - 1) / n

/-- A timer that stands at its full time while it is held (8.1, R135). -/
def shownHeld (held : Bool) (full : Nat) (t : Timer) : Nat := if held then full else shownIn 1 t

/-- Two fields that share a word, the first in the high byte (12). -/
def bytes (hi lo : Nat) : Nat := 256 * hi + lo

/-- A flag word, its flags from bit 0 upward (12). -/
def flags : List Bool → Nat
  | [] => 0
  | b :: rest => b.toNat + 2 * flags rest

/-- A number from 1 in a list, or 0 past its end. -/
def entryAt (l : List PumpId) (i : Nat) : Nat := (l[i]?.map fun p => p.val + 1).getD 0

/-- Pump numbers in four 4-bit fields, the first in bits 15..12 (12.2). -/
def fourEntries (l : List PumpId) : Nat :=
  16 * (16 * (16 * entryAt l 0 + entryAt l 1) + entryAt l 2) + entryAt l 3

/-- The two words of a value, the high word first (12). -/
def twoWords (n : Nat) : List Nat := [n / 65536, n]

/-- Every record of the Plant Image in the order of 12.1 as a link reads it: its first address and its words, of
which a word shows the low 16 bits (12.2, 12.3, R183). -/
def imageRecords (s : State) (k : Link) : List (Nat × List Nat) :=
  let level (i : InputId) := s.level i
  let load := s.load
  let closure := s.closure
  let x := s.link k
  let stage (j : StageId) := 16 * (s.stage j).basis.code + ((s.stage j).assigned.map fun p => p.val + 1).getD 0
  let entry (i : Nat) := (load.queue[i]?.map fun e => bytes (e.pump.val + 1) e.source.code).getD 0
  let queuedAt (i : Nat) := twoWords ((load.queue[i]?.map fun e => e.queuedAt.toNat).getD 0)
  let clearWait (b : Barrier) :=
    shownHeld (closure.phase b == .clearWait && closure.clearWait b == .stopped)
      (Param.obstructionClearTime s.prof) (closure.clearWait b)
  let event (f : Event → Nat) := ((s.underCursor k).map f).getD 0
  [(0x000, [0x2460] ++ twoWords s.stationClock.toNat ++
      [s.profile.site.toNat, s.signals.position, s.signals.periodInUse,
        flags [s.signals.redProven2, s.signals.redProven1, s.signals.lampTest], 0]),
    (0x008, [s.sump.level, s.sump.valid.toNat, s.sump.source.code, (s.sump.rate % 65536).toNat,
      s.sump.windowStart, shownIn 1 s.sump.windowTimer, s.sump.disagreement.toNat,
      flags [level (.float .roadFlood), level (.float .highHigh), level (.float .high),
        level (.float .stop), level (.float .dry)]])] ++
  (allChannels.map fun c =>
    let y := s.channel c
    (8 + 8 * channelNumber c, [bytes y.state.code y.failCause.code, y.lastWidth.toNat, y.scaled, y.reported] ++
      twoWords y.filter ++
      [16384 * y.suspectCount + 4096 * y.suspectDir.code + 1024 * y.invalidCount + 256 * y.recoveryCount +
        flags [y.phase == .awaitingFall, y.reloadPending], shownIn 1 y.sampleTimer])) ++
  (allPumps.map fun p =>
    let y := s.pump p
    (0x040 + 8 * p.val, [bytes y.state.code (s.authorityOf (.pump p)).code,
      bytes (s.call p).code (((allStages.find? fun j => (s.stage j).assigned == some p).map fun j =>
        j.val + 1).getD 0),
      bytes y.faultCause.code y.stopCause.code, Param.ratedLoad s.prof p, y.history.length,
      if y.timer.isRunning then shownIn 10 y.timer else 0,
      flags [y.requeue, level (.sealWarning p), s.installed p], 0])) ++
  [(0x060, [bytes load.queue.length s.rotation.length, fourEntries s.rotation, bytes (stage 0) (stage 1),
      bytes (stage 2) (stage 3), entry 0, entry 1, entry 2, entry 3]),
    (0x068, [load.supply.code, shownIn 1 load.settle, min 65535 load.budget, min 65535 load.committed,
      min 65535 load.pumpPart, min 65535 load.lampPart, min 65535 load.headStart, min 65535 load.reserve,
      min 65535 load.allowance, shownIn 1 load.stagger, shownIn 1 load.hold, load.heldAppended.toNat,
      fourEntries load.grantOrder, 0, 0, 0]),
    (0x078, queuedAt 0 ++ queuedAt 1 ++ queuedAt 2 ++ queuedAt 3)] ++
  (allGroups.map fun g =>
    let y := s.group g
    (0x080 + 8 * g.val, [y.requested, y.source.code, y.granted, y.grantedLoad, y.applied, y.offset,
      bytes y.fault.code (flags [y.darkHold, level (.driverFault g)]), 0])) ++
  [(0x0B0, [s.lighting.periodInUse, s.lighting.stage, shownIn 1 s.lighting.dwell, s.lighting.stageLum,
      s.demandFixed.toNat, s.lighting.counter])] ++
  (List.finRange 8).map (fun n =>
    let y := s.signal n
    (0x0C0 + 8 * n.val, [y.commanded.code, (s.displayed n).code, y.proof.code, y.miss, y.lastSense.code,
      flags [y.failFlag, y.checked], 0, 0])) ++
  ([.barrier .one, .barrier .two, .penstock].map fun d =>
    let y := s.drive d
    let stem := s.gates.stem
    let own : List Bool := match d with
      | .barrier b => [level (.obstruction b), y.permit]
      | .penstock => [level .torque, false, stem.seatFlag, stem.referenced, stem.stopCount.isSome, stem.encA,
          stem.encB]
    (0x0F8 + 8 * driveIndex d, [bytes y.state.code y.fault.code, bytes y.pending.code y.lastDir.code,
      shownIn 1 y.dwell, shownIn 1 y.travel, bytes y.arrival.code (s.limitPosition d).code,
      flags ([s.limit d true, s.limit d false] ++ own)] ++
      if d = .penstock then [stem.count, s.position] else [0, 0])) ++
  [(0x118, [bytes s.penstock.decideOpen.toNat (!s.gravitySet).toNat,
      flags [s.penstock.openCond, s.penstock.backflow], shownIn 10 s.penstock.openDelay,
      (max (-32768) (min 32767 s.penstock.head) % 65536).toNat,
      bytes s.penstock.target.code s.authority.penstock.code, s.penstock.targetPos,
      s.gates.stem.stopCount.getD 0,
      bytes s.positionState.code
        (if s.gates.stem.stall = .stopped then 255 else min 254 (shownIn 10 s.gates.stem.stall))]),
    (0x120, [bytes closure.state.code closure.halt.code,
      flags [closure.roadFlood, closure.sumpBackup, closure.depth, closure.trigger],
      shownIn 1 closure.confirm, shownIn 1 closure.alert,
      shownHeld closure.held (Param.clearanceTime s.prof) closure.clearance, closure.held.toNat,
      closure.obstructions, bytes closure.phase1.code closure.phase2.code, clearWait .one, clearWait .two,
      0, 0]),
    (0x140, (allUnits.map fun u => bytes
        (match u with
          | .pump p => if level (.keyOff p) then 2 else (level (.keyHand p)).toNat
          | .penstock => (level .penstockKey).toNat
          | .road => (level .roadKey).toNat
          | .lighting => 0)
        (s.authorityOf u).code) ++
      [flags [level (.button .lampTest), level (.button .faultReset), level (.button .reopen),
        level (.button .close)]]),
    (0x148, s.authority.demands.pumpRun.toList.map Bool.toNat),
    (0x14C, [s.authority.demands.action.code, s.authority.demands.position]),
    (0x14E, [s.authority.demands.road.code]),
    (0x150, s.authority.demands.fixed.toNat :: s.authority.demands.duties.toList),
    (0x158, allUnits.map fun u => (s.clearCount u).toNat)] ++
  ([0x180, 0x188].map fun a => (a, [x.state.code, bytes x.split.toNat x.fifo.length, x.readPtr.toNat,
    x.writePtr.toNat, shownIn 1 x.silence, x.refAddr.toNat,
    bytes x.refReason.code (flags [x.missed, x.overrun, x.refusal]), x.refValue.toNat])) ++
  [(0x190, [x.unread.getD 0, event fun e => e.seq.toNat, event fun e => bytes e.kind.code e.subject,
      event fun e => e.detail.toNat] ++ twoWords (event fun e => e.time.toNat)),
    (0x196, [x.acked.toNat]),
    (0x1A0, [s.profile.crc.toNat, bytes s.profile.site.toNat s.profile.commit.code,
      bytes ((s.profile.owner.map linkIndex).getD 0) s.profile.outcome.code, s.profile.failAddr.toNat]),
    (0x200, s.profile.active.toList.map BitVec.toNat),
    (0x300, s.profile.staging.toList.map BitVec.toNat)]

/-- Each enumeration of 12.7 that a word shows counts its codes in the order listed; NONE is code 0 of the
refusal reasons, and the event kinds count from 1. -/
def codesInOrder : Prop :=
  let counts (l : List Nat) := l = List.range l.length
  counts ([.uncalibrated, .waiting, .healthy, .failed].map ChannelState.code) ∧
  counts ([.none, .invalidSamples, .sampleTimeout].map FailCause.code) ∧
  counts ([.none, .up, .down].map SuspectDirection.code) ∧
  counts ([.a, .b, .both, .floats].map SumpSource.code) ∧
  counts ([.idle, .queued, .starting, .running, .stopping, .resting, .faulted].map PumpState.code) ∧
  counts ([.auto, .link .a, .link .b, .hand].map Authority.code) ∧
  counts ([.none, .auto, .link, .hand].map Call.code) ∧
  counts ([.none, .startFail, .tripped, .runLost, .failToStop].map PumpFaultCause.code) ∧
  counts ([.none, .callEnded, .dry, .handOff, .shed, .aborted, .supplyLost, .uncommanded, .removed].map
    StopCause.code) ∧
  counts ([.none, .level, .float].map Basis.code) ∧
  counts ([.mains, .generator, .dead].map Supply.code) ∧
  counts ([.stage, .linkFixed, .builtin].map RequestSource.code) ∧
  counts ([.none, .transient, .latched].map LampFault.code) ∧
  counts ([.dark, .steady, .flashA, .flashB].map Aspect.code) ∧
  counts ([.dark, .unproven, .proven, .failed].map Proof.code) ∧
  counts ([.none, .present, .absent].map LastSense.code) ∧
  counts ([.stopped, .dwell, .drivingUp, .drivingDown, .faulted].map DriveState.code) ∧
  counts ([.none, .up, .down, .both].map Direction.code) ∧
  counts ([.none, .travelTimeout, .limitConflict, .stall, .torqueTrip].map DriveFault.code) ∧
  counts ([.none, .up, .down, .seat, .count].map Arrival.code) ∧
  counts ([.mid, .up, .down].map LimitPosition.code) ∧
  counts ([.seated, .openLimit, .intermediate, .unreferenced].map PositionState.code) ∧
  counts ([.closed, .open, .position, .stopped].map TargetKind.code) ∧
  counts ([.open, .alert, .stop, .lowering, .closed, .raising, .halted].map ClosureState.code) ∧
  counts ([.none, .obstructionLimit, .travelFault, .resetMidTravel].map HaltCause.code) ∧
  counts ([.none, .descending, .retreating, .clearWait, .downDone, .ascending, .upDone].map
    BarrierPhase.code) ∧
  counts ([.hold, .open, .closed, .position].map PenstockAction.code) ∧
  counts ([.none, .close, .reopen, .resume].map RoadAction.code) ∧
  counts ([.starting, .restarted, .active, .silent].map LinkState.code) ∧
  counts ([.idle, .writing].map CommitState.code) ∧
  counts ([.none, .refused, .committed, .nvFail, .abandoned].map EditOutcome.code) ∧
  counts ([.powerOn, .resetPin, .linkA, .linkB].map RestartCause.code) ∧
  counts ([.none, .busy, .linkRestarted, .notAuthority, .heldByOther, .panelHasControl, .builtinProfile,
    .outOfRange, .protective, .notReferenced, .depthUnknown, .depthHigh, .state, .editHeld, .noEdit,
    .commitInProgress, .readOnly, .unmapped, .sequenceMismatch].map Reason.code) ∧
  counts (0 :: [.restart, .linkSilent, .linkActive, .authorityChange, .channelFailed, .channelRestored,
    .sumpDisagree, .floatMode, .pumpFault, .pumpStartAborted, .supplyChange, .startHeld, .lampFault,
    .stageChange, .signalFailed, .closureState, .closureAdvised, .barrierObstructed, .driveFault,
    .driveArrived, .referenceLost, .referenceSuspect, .overridden, .profileCommitted, .profileRefused,
    .profileNvFail, .profileInvalid].map EventKind.code)

/-- The Plant Image as a link reads it (12.1 to 12.4, 12.7, R183): every word of every record shows what
`imageRecords` gives, the records are those of 12.1, and an address of no record reads 0. -/
def imageShows (s : State) (k : Link) : Prop :=
  (∀ r ∈ imageRecords s k, ∀ i w, r.2[i]? = some w →
    imageWord s k (BitVec.ofNat 10 (r.1 + i)) = BitVec.ofNat 16 w ∧
    recordAt (r.1 + i) = some (r.1, r.2.length)) ∧
  (∀ a : Addr, (∀ r ∈ imageRecords s k, ¬ (r.1 ≤ a.toNat ∧ a.toNat < r.1 + r.2.length)) →
    imageWord s k a = 0 ∧ recordAt a.toNat = none) ∧
  codesInOrder

/-- R165, R166, R183: with an empty Write FIFO, READ_INC shifts out the words from the Read Pointer on, each
as the image shows it when its turn comes, and moves the pointer past each word whose second byte has been
shifted; READ_FIXED repeats one word; READ_RECORD shifts out a snapshot of the pointer's record and then 0,
clearing the link's three flags when the record is its own Link record. With the FIFO not empty each is
refused BUSY. In a whole frame all words are of one moment, which is the model's choice (log 8); in a later
part of a frame a word is the one that the image shows when its first byte is shifted, and a snapshot stays as
it was taken. What a word shows is `imageShows`: the words of each record of 12.1, and 0 at an unmapped address.
Model's choices in it: both Link records show the reading link's items (log 18, DEDUCED), words 6 and 7 of the
Load record saturate (log 32), words 0, 1 and 9 to 12 of it stand as they are also before the load evaluation
that is due (log 36), and Seal Warning shows the input of a pump that is not Installed too (log 30). -/
def Obligations.ReadFrames : Prop :=
  ∀ (s : State) (k : Link) (n : Nat) (inc : Bool) (b : Byte) (kept : List Byte), s.phase = .running →
    let st := statusByte s k
    let u := begun s k
    let x := u.link k
    let read (part : FramePart) (n : Nat) := if inc then Instr.readInc ⟨k, part⟩ n else .readFixed ⟨k, part⟩ n
    let code : Byte := if inc then 0x20 else 0x21
    let moved (m : Nat) := if inc then readAdvanced m x else x
    let word (i : Nat) := imageWord (u.modLink k fun _ => moved i) k (moved i).readPtr
    let own := recordAt x.readPtr.toNat == some (if k = .a then 0x180 else 0x188, 8)
    let place := x.readPtr.toNat
    let snapped : List Nat := match recordAt place with
      | none => [place]
      | some (base, len) => (List.range' place (base + len - place)) ++ List.range' base (place - base)
    let snap := snapped.flatMap fun a => bytesOfWord (imageWord u k (BitVec.ofNat 10 a))
    let busy := u.modLink k fun x =>
      { x with dataOut := st :: List.replicate n 0, refAddr := x.readPtr, refReason := .busy
               refValue := 0, refusal := true }
    ((s.link k).select = .released → (s.link k).fifo = [] →
      exec (read .whole n) s = .next (u.modLink k fun _ =>
        { moved (n / 2) with
          dataOut := st :: ((List.range (n / 2 + 1)).flatMap fun i => bytesOfWord (word i)).take n }) ∧
      exec (.readRecord ⟨k, .whole⟩ n) s = .next (u.modLink k fun x =>
        { x with
          dataOut := st :: (snap ++ List.replicate n 0).take n
          refusal := if own then false else x.refusal
          overrun := if own then false else x.overrun
          missed := if own then false else x.missed })) ∧
    ((s.link k).select = .released → (s.link k).fifo ≠ [] →
      exec (read .whole n) s = .next busy ∧ exec (.readRecord ⟨k, .whole⟩ n) s = .next busy) ∧
    ((s.link k).select = .framing code (.read inc none) →
      exec (read .middle 2) s = .next (s.modLink k fun x =>
        { (if inc then readAdvanced 1 x else x) with
          dataOut := x.dataOut ++ bytesOfWord (imageWord s k x.readPtr) })) ∧
    ((s.link k).select = .framing code (.read inc (some b)) →
      exec (read .middle 1) s = .next (s.modLink k fun x =>
        { (if inc then readAdvanced 1 x else x) with
          dataOut := x.dataOut ++ [b], select := .framing code (.read inc none) })) ∧
    ((s.link k).select = .framing 0x22 (.record (b :: kept)) →
      exec (.readRecord ⟨k, .middle⟩ 1) s = .next (s.modLink k fun x =>
        { x with dataOut := x.dataOut ++ [b], select := .framing 0x22 (.record kept) })) ∧
    imageShows s k

/-- R164, R167: the words of a WRITE frame enter an ACTIVE link's FIFO (of a SILENT link made ACTIVE too)
while fewer than 8 wait, WRITE_FIXED all at the Write Pointer and WRITE_INC at addresses that advance with it
(and with the Read Pointer in SHARED mode); a word that completes while 8 wait is discarded with OVERRUN; a
half word is discarded; a RESTARTED link's WRITE is refused LINK_RESTARTED. That nothing drains within a whole
frame, so that one of more words than fit overruns, is the model's choice (log 8); in a later part of a frame
each word enters or is discarded by what waits as it completes. -/
def Obligations.WriteFrames : Prop :=
  ∀ (s : State) (k : Link) (inc : Bool) (ws : List Word) (half : List Byte) (w : Word),
    s.phase = .running → half.length ≤ 1 →
    let st := statusByte s k
    let u := begun s k
    let bytes := ws.flatMap bytesOfWord ++ half
    let write (part : FramePart) (bytes : List Byte) :=
      if inc then Instr.writeInc ⟨k, part⟩ bytes else .writeFixed ⟨k, part⟩ bytes
    let code : Byte := if inc then 0x30 else 0x31
    let out := st :: List.replicate bytes.length 0
    let entered (x : LinkPort) (ws : List Word) : LinkPort :=
      let taken := ws.take (8 - x.fifo.length)
      let moved := if inc then BitVec.ofNat 10 taken.length else 0
      { x with
        fifo := x.fifo ++ taken.zipIdx.map fun w =>
          (if inc then x.writePtr + BitVec.ofNat 10 w.2 else x.writePtr, w.1)
        writePtr := x.writePtr + moved
        readPtr := if x.split then x.readPtr else x.readPtr + moved
        overrun := x.overrun || decide (taken.length < ws.length) }
    ((s.link k).select = .released → (s.link k).state = .active ∨ (s.link k).state = .silent →
      exec (write .whole bytes) s = .next (u.modLink k fun x =>
        { entered x ws with dataOut := out })) ∧
    ((s.link k).select = .released → (s.link k).state = .restarted →
      exec (write .whole bytes) s = .next (u.modLink k fun x =>
        { x with dataOut := out, refAddr := x.writePtr, refReason := .linkRestarted, refValue := 0
                 refusal := true })) ∧
    ((s.link k).select = .framing code (.write inc none) →
      exec (write .middle (bytesOfWord w)) s = .next (s.modLink k fun x =>
        { entered x [w] with dataOut := x.dataOut ++ [0, 0] }))

/-- R163 with the bits of 12.5: what each flag of the Link Status byte reports; REFUSAL, OVERRUN and MISSED
clear together when the link reads its own Link record with READ_RECORD, in whatever Link State the read is
carried out, and at reset release. What sets them is said by WriteFrames, EventQueueMoves and the refusals of
the other statements. -/
def Obligations.LinkStatusByte : Prop :=
  ∀ (s : State) (k : Link) (n : Nat),
    ((statusByte s k).getLsbD 7 = true ↔
      ((s.link k).state = .starting ∨ (s.link k).state = .restarted)) ∧
    ((statusByte s k).getLsbD 6 = true ↔ (s.link k).fifo = []) ∧
    ((statusByte s k).getLsbD 5 = true ↔ (s.link k).refusal = true) ∧
    ((statusByte s k).getLsbD 4 = true ↔ (s.link k).overrun = true) ∧
    ((statusByte s k).getLsbD 3 = true ↔
      ((s.link k).state = .active ∧ ∃ m, (s.link k).unread = some m ∧ 0 < m)) ∧
    ((statusByte s k).getLsbD 2 = true ↔ (s.link k).missed = true) ∧
    ((statusByte s k).getLsbD 1 = true ↔ s.profile.site = true) ∧
    ((statusByte s k).getLsbD 0 = true ↔ s.profile.owner = some k) ∧
    (s.phase = .running → (s.link k).select = .released → (s.link k).fifo = [] →
      recordAt (s.link k).readPtr.toNat = some (if k = .a then 0x180 else 0x188, 8) →
      ∃ t, exec (.readRecord ⟨k, .whole⟩ n) s = .next t ∧
        (t.link k).refusal = false ∧ (t.link k).overrun = false ∧ (t.link k).missed = false) ∧
    (s.phase = .held →
      ∃ t, exec .resetRelease s = .next t ∧
        (t.link k).refusal = false ∧ (t.link k).overrun = false ∧ (t.link k).missed = false)

/-- R174: the attention line is asserted while the link is RESTARTED, and while it is ACTIVE with an unread count
above 0, and released in every other case; the acknowledge of the last unread entry releases it, the next
append asserts it again; while reset is held it is released, and so it is while the part starts up, when every
link is STARTING. -/
def Obligations.AttentionLine : Prop :=
  ∀ (s : State) (k : Link) (seq : Word) (kind : EventKind) (subject detail : Nat),
    (s.phase = .running →
      (attention s k = true ↔
        ((s.link k).state = .restarted ∨
          ((s.link k).state = .active ∧ ∃ m, (s.link k).unread = some m ∧ 0 < m)))) ∧
    ((s.link k).state = .active → (s.link k).unread = some 1 →
      (∃ e, s.underCursor k = some e ∧ e.seq = seq) →
      Applies (.eventAcknowledge k seq) k 0x196 seq s fun t => attention t k = false) ∧
    (s.phase = .running → (s.link k).state = .active → (s.link k).unread = some 0 →
      attention (s.append kind subject detail) k = true) ∧
    (s.phase = .held ∨ s.phase = .starting → attention s k = false)

/-! ## Applied words -/

/-- R168, R150, R153, R156, R177, R184: the word at the front of a link's Write FIFO leaves the FIFO as it is
applied, and no other word is applied before it; with the FIFO empty the command itself is the application
(log 7). A word that no other row names is refused, with its address and value, and changes nothing else:
UNMAPPED or READ_ONLY by its address, and at a writable address OUT_OF_RANGE, but NOT_AUTHORITY where the
owner judges that first. That the row READ_ONLY_OR_UNMAPPED_WRITE carries the values outside an enumerated
word's list at the writable addresses too, and the order of their reasons, is the model's reading, log 12
(DEDUCED). -/
def Obligations.WordsJudged : Prop :=
  ∀ (s : State) (i : Instr) (k : Link) (a : Addr) (v : Word), appliedWord i = some (k, a, v) →
    (s.phase ≠ .running → exec i s = .next s) ∧
    (∀ e rest, (s.link k).fifo = e :: rest → e ≠ (a, v) → exec i s = .next s) ∧
    (∀ rest, s.phase = .running → (s.link k).fifo = (a, v) :: rest →
      ∃ t, exec i s = .next t ∧ (t.link k).fifo = rest ∧
        (∀ j, j ≠ k → (t.link j).fifo = (s.link j).fifo) ∧
        ∀ j, (t.link j).readPtr = (s.link j).readPtr ∧ (t.link j).writePtr = (s.link j).writePtr ∧
          (t.link j).state = (s.link j).state) ∧
    (i = .readOnlyOrUnmappedWrite k a v → i.wellFormed = true →
      Applies i k a v s fun t =>
        let n := a.toNat
        let refused (r : Reason) := t = s.refuse k a r v
        let held (u : UnitId) := (s.link k).state = .active ∧ s.authorityOf u = .link k
        if isMapped n = false then refused .unmapped
        else if isWritable n = false then refused .readOnly
        else if n ≤ 0x146 then refused .outOfRange
        else if n ≤ 0x14B then
          (held (unitAt (n - 0x148)) → refused .outOfRange) ∧
          (¬ held (unitAt (n - 0x148)) → refused .notAuthority)
        else if n = 0x14C then
          (held .penstock → refused .outOfRange) ∧ (¬ held .penstock → refused .notAuthority)
        else if n = 0x14E then
          (held .road → refused .outOfRange) ∧ (¬ held .road → refused .notAuthority)
        else if n = 0x150 then
          (held .lighting → refused .outOfRange) ∧ (¬ held .lighting → refused .notAuthority)
        else if (s.link k).state = .active then refused .outOfRange
        else refused .notAuthority)

/-- A unit's authority has become `a` by R148: that word alone of the authority words, its Demand Record neutral
(R155), the clear counts as they were, AUTHORITY_CHANGE the first report, and nothing outside the unit's blocks
changed. -/
def authorityMoved (u : UnitId) (a : Authority) (s t : State) : Prop :=
  t.authorityOf u = a ∧ (∀ w, w ≠ u → t.authorityOf w = s.authorityOf w) ∧
  (∀ w, t.clearCount w = s.clearCount w) ∧
  t.authority.demands =
    (match u with
      | .pump p => { s.authority.demands with pumpRun := s.authority.demands.pumpRun.set p false }
      | .penstock => { s.authority.demands with action := .hold, position := 0 }
      | .road => { s.authority.demands with road := .none }
      | .lighting =>
        { s.authority.demands with fixed := false, duties := #v[1000, 1000, 1000, 1000, 1000, 1000] }) ∧
  ∃ es, Changes (unitBlocks u) ((.authorityChange, u.index, a.code) :: es) s t

/-- The contacts of a unit's panel key (9.2). -/
def keyContacts : UnitId → List InputId
  | .pump p => [.keyHand p, .keyOff p]
  | .penstock => [.penstockKey]
  | .road => [.roadKey]
  | .lighting => []

/-- What a pump under HAND does as its key has come to OFF or HAND (R25, R36). -/
def keyPositionActs (p : PumpId) (q t : State) : Prop :=
  (q.keyOff p = true →
    (t.pump p).requeue = false ∧ runLine t p = false ∧
    ((q.pump p).isOn = true → t.pump p = { stopRecord q p .handOff with requeue := false }) ∧
    ((q.pump p).state = .queued → withdrawn t p)) ∧
  (q.keyHand p = true → q.installed p = true →
    ((q.pump p).isOn = true →
      (t.pump p).state = (q.pump p).state ∧ (t.pump p).timer = (q.pump p).timer) ∧
    ((q.pump p).state = .idle → q.level (.float .dry) = true → q.runProven p = false → 0 < q.load.budget →
      (pruneHistory q.stationClock (q.pump p).history).length < Param.maxStarts q.prof p →
      enteredAs .hand q t p))

/-- What a pump does whose authority has changed and for which no call stands (R35, R25, R28). -/
def leftUncalled (p : PumpId) (s t : State) : Prop :=
  (t.pump p).requeue = false ∧
  match (s.pump p).state with
  | .queued => withdrawn t p
  | .running =>
    if (s.pump p).timer.isRunning then
      t.pump p = { s.pump p with requeue := false, history := pruneHistory s.stationClock (s.pump p).history }
    else t.pump p = { stopRecord s p .callEnded with requeue := false }
  | .idle | .starting | .stopping | .resting | .faulted =>
    (t.pump p).state = (s.pump p).state ∧ (t.pump p).timer = (s.pump p).timer

/-- A pump that is QUEUED after a change of its authority has one entry, with its new source, in the place of R55
(R35). -/
def requeued (source : Call) (requeue : Bool) (p : PumpId) (s t : State) : Prop :=
  (t.pump p).state = .queued ∧ (t.pump p).requeue = false ∧
    enqueued (s.load.queue.filter fun e => e.pump != p) t.load.queue
      { pump := p, source := source, queuedAt := s.stationClock } requeue

/-- A pump has left AUTO: it is out of the Duty Rotation and gives up its stage, where it held one at most, which
stays called and is given to another pump that qualifies (R35, R44, R45, R46). -/
def leftRotation (p : PumpId) (s t : State) : Prop :=
  t.rotation = s.rotation.filter (· != p) ∧ (∀ k, (t.stage k).called = (s.stage k).called) ∧ stagesServed t ∧
    ((∀ j k, (s.stage j).assigned = some p → (s.stage k).assigned = some p → j = k) →
      ∀ k, (t.stage k).assigned ≠ some p)

/-- A pump has come to AUTO (R35, R44, R46): Installed and not FAULTED, it joins the Duty Rotation at its tail.
Without a stage no call stands for it. With one, a pump that is on goes on, and one that is IDLE or QUEUED
has a new entry of AUTO where it may enter QUEUED, stated where Requeue At Head is clear. -/
def joinedRotation (p : PumpId) (s t : State) : Prop :=
  let served := ∃ k, (t.stage k).assigned = some p
  let waits := (s.pump p).state = .idle ∨ (s.pump p).state = .queued
  t.rotation =
    (if s.installed p = true ∧ (s.pump p).state ≠ .faulted ∧ p ∉ s.rotation then s.rotation ++ [p]
    else s.rotation) ∧
  (∀ k, (t.stage k).called = (s.stage k).called) ∧ stagesServed t ∧
  (¬ served → leftUncalled p s t) ∧
  (served → ¬ waits → (t.pump p).state = (s.pump p).state ∧ (t.pump p).timer = (s.pump p).timer) ∧
  (served → waits → queueable s p → (s.pump p).requeue = false → requeued .auto false p s t) ∧
  (served → (s.pump p).state = .idle → ¬ queueable s p → (t.pump p).state = .idle)

/-- The ROAD unit has come under AUTO or a link: a trigger that stands acts on the road, and without one it
stays as it is (R131, R142). -/
def roadUnderTriggers (q t : State) : Prop :=
  (q.closure.trigger = true → triggerActed q t) ∧
  (q.closure.trigger = false →
    t.signals = q.signals ∧ t.gates = q.gates ∧ t.closure = { q.closure with advised := false })

/-- The lighting demand has become neutral under a SITE profile (R77, R74): every request is formed anew from the
Current Stage, and one that changes makes a load evaluation due. -/
def lightingFollowsStage (s t : State) : Prop :=
  s.profile.site = true →
    t.lighting = { s.lighting with groups := t.lighting.groups } ∧
    (∀ g, t.group g =
      { s.group g with
        requested := min 1000 (Param.stageDuty s.prof s.lighting.stage g), source := .stage }) ∧
    t.load = { s.load with evalDue :=
      s.load.evalDue || allGroups.any fun g => (t.group g).requested != (s.group g).requested }

/-- What a unit does that a link has taken from AUTO: a pump leaves the Duty Rotation and its stage and has no
call (R35, R46), the penstock keeps its target and its drive (R120), the road stays under its triggers (R142), and
the lighting follows the Current Stage (R77). -/
def takenByLink (u : UnitId) (s t : State) : Prop :=
  match u with
  | .pump p => leftRotation p s t ∧ leftUncalled p s t
  | .penstock => t.penstock = s.penstock ∧ t.gates = s.gates
  | .road => roadUnderTriggers s t
  | .lighting => lightingFollowsStage s t

/-- What a unit does whose key has taken it to HAND: a pump from AUTO leaves the Duty Rotation and its stage, and a
pump follows its key, a QUEUED one that the key calls with a new entry (R35, R36, R45, R46), the penstock's
target is STOPPED with its motor off (R120), and the road stays as it is (R142). -/
def takenToHand (u : UnitId) (q t : State) : Prop :=
  match u with
  | .pump p =>
    keyPositionActs p q t ∧
    (q.authorityOf u = .auto → leftRotation p q t) ∧
    (q.authorityOf u ≠ .auto → t.rotation = q.rotation) ∧
    (q.keyHand p = true → q.installed p = true → (q.pump p).state = .queued →
      q.level (.float .dry) = true →
      (pruneHistory q.stationClock (q.pump p).history).length < Param.maxStarts q.prof p →
      requeued .hand (q.pump p).requeue p q t)
  | .penstock =>
    t.penstock = { q.penstock with target := .stopped } ∧
    upLine t .penstock = false ∧ downLine t .penstock = false
  | .road =>
    t.signals = q.signals ∧ t.gates = q.gates ∧ t.closure = { q.closure with advised := advisedNow t }
  | .lighting => True

/-- What a unit does that has returned to AUTO: a pump joins the Duty Rotation (`joinedRotation`), the penstock's
target and its command are the AUTO Decision's (R120, R121), a trigger that stands acts on the road (R131, R142),
and the lighting follows the Current Stage (R77). -/
def returnedToAuto (u : UnitId) (q t : State) : Prop :=
  match u with
  | .pump p => joinedRotation p q t
  | .penstock =>
    t.penstock = { q.penstock with target := if q.penstock.decideOpen then .open else .closed } ∧
    t.gates = (commandDrive .penstock (if q.penstock.decideOpen then .up none else .down none) q).1.gates
  | .road => roadUnderTriggers q t
  | .lighting => lightingFollowsStage q t

/-- R149, R150, R148, R155, R35, R46, R77, R120, R142, R146, R147, R36: a TAKE is refused with the first reason of
R149 that matches, changes nothing where the link already holds the unit, and moves a unit under AUTO to the link,
the unit doing what `takenByLink` says; a RELEASE by the holder returns the unit to AUTO (`returnedToAuto`), any
other is refused NOT_AUTHORITY. A key turned to a local position takes its unit to HAND from any
authority, and its return gives AUTO; a pump key moved between HAND and OFF changes the pump's call alone; any
other change of a contact does nothing. Stated where Red Proven is what the Proof States give (R95). -/
def Obligations.TakeAndRelease : Prop :=
  ∀ (s : State) (k : Link) (u : UnitId), RedDerived s →
    (Applies (.take k u) k (authorityAddr u) 1 s fun t =>
      let refused (r : Reason) := t = s.refuse k (authorityAddr u) r 1
      if (s.link k).state ≠ .active then refused .notAuthority
      else if s.profile.site = false then refused .builtinProfile
      else match s.authorityOf u with
        | .hand => refused .panelHasControl
        | .link j => if j = k then t = s else refused .heldByOther
        | .auto => authorityMoved u (.link k) s t ∧ takenByLink u s t) ∧
    (Applies (.release k u) k (authorityAddr u) 2 s fun t =>
      if (s.link k).state = .active ∧ s.authorityOf u = .link k then
        authorityMoved u .auto s t ∧ returnedToAuto u s t
      else t = s.refuse k (authorityAddr u) .notAuthority 2) ∧
    (s.phase = .running → ∀ i ∈ keyContacts u, (s.inputs.get i).timer.isRunning = true →
      (s.inputs.get i).pin ≠ (s.inputs.get i).level →
      let q := qualified s i
      ∃ t, exec (.debounceTimerExpiry i) s = .next t ∧
        (q.keyLocal u = true → s.authorityOf u ≠ .hand → authorityMoved u .hand q t ∧ takenToHand u q t) ∧
        (q.keyLocal u = false → s.authorityOf u = .hand → authorityMoved u .auto q t ∧ returnedToAuto u q t) ∧
        (q.keyLocal u = false → s.authorityOf u ≠ .hand → t = q) ∧
        (q.keyLocal u = true → s.authorityOf u = .hand →
          match u with
          | .pump p =>
            if s.keyOff p = q.keyOff p then t = q
            else Changes [.pumps, .load] [] q t ∧ keyPositionActs p q t
          | .penstock | .road | .lighting => t = q))

/-- R25, R28, R55, R153: a pump word from a link that does not hold the pump is refused NOT_AUTHORITY. From the
holder, RUN is stored and queues an IDLE pump that meets the conditions of R25, in the place that R55 gives it
in the Start Queue; STOP is stored and withdraws a
QUEUED pump to IDLE, stops a RUNNING pump whose Min Run has expired, and leaves one whose Min Run runs. -/
def Obligations.PumpDemandWords : Prop :=
  ∀ (s : State) (k : Link) (p : PumpId),
    let held := (s.link k).state = .active ∧ s.authorityOf (.pump p) = .link k
    let stored (run : Bool) (t : State) := Changes [.pumps, .load, .authority] [] s t ∧
      t.authority = { s.authority with demands :=
        { s.authority.demands with pumpRun := s.authority.demands.pumpRun.set p run } }
    (Applies (.pumpDemandRun k p) k (pumpDemandAddr p) 1 s fun t =>
      (¬ held → t = s.refuse k (pumpDemandAddr p) .notAuthority 1) ∧
      (held → stored true t ∧
        ((s.pump p).state = .idle → s.installed p = true → s.level (.float .dry) = true →
          (pruneHistory s.stationClock (s.pump p).history).length < Param.maxStarts s.prof p →
          0 < s.load.budget → s.runProven p = false → enteredAs .link s t p))) ∧
    (Applies (.pumpDemandStop k p) k (pumpDemandAddr p) 0 s fun t =>
      (¬ held → t = s.refuse k (pumpDemandAddr p) .notAuthority 0) ∧
      (held → stored false t ∧ (t.pump p).requeue = false ∧
        ((s.pump p).state = .queued →
          (t.pump p).state = .idle ∧ ∀ e ∈ t.load.queue, e.pump ≠ p) ∧
        ((s.pump p).state = .running → (s.pump p).timer.isRunning = true →
          (t.pump p).state = .running ∧ (t.pump p).timer = (s.pump p).timer) ∧
        ((s.pump p).state = .running → (s.pump p).timer.isRunning = false →
          (t.pump p).state = (if s.runProven p then .stopping else .resting) ∧
          (t.pump p).stopCause = .callEnded)))

/-- A drive has come to rest in STOPPED between `s` and `t` with an Arrival, reported unless it is NONE: nothing
pends and no Stop Count is held, and a motor that was on has made a motor stop, from which the dwell runs (R98,
R99, R100, R102, R112). That no Stop Count is held after a completion by case 1, 2 or 3 of R99 is the model's
choice (log 35). -/
def driveRests (d : DriveId) (a : Arrival) (s t : State) : Prop :=
  let x := s.drive d
  let y : Drive := { x with state := .stopped, pending := .none, arrival := a }
  t.drive d =
    (if x.isDriving then
      { y with
        lastDir := if x.state = .drivingUp then .up else .down, travel := .stopped
        dwell := .running (Param.reversalDwell s.prof) }
    else y) ∧
  t.gates.stem =
    (if d = .penstock then
      { s.gates.stem with
        stopCount := none, stall := if x.isDriving then .stopped else s.gates.stem.stall }
    else s.gates.stem) ∧
  (∀ e, e ≠ d → t.drive e = s.drive e) ∧
  Changes [.gates] (if a = .none then [] else [(.driveArrived, driveIndex d, a.code)]) s t

/-- The command completes at once where it stands, and its Arrival is delivered (R99). -/
def completes (d : DriveId) (a : Arrival) (s t : State) (n : News) : Prop :=
  driveRests d a s t ∧ n = .arrived a

/-- A Stop Count is reached in a direction of travel (R99, R112). -/
def countReached (s : State) (up : Bool) (stop : Option Nat) : Prop :=
  ∃ m ∈ stop, if up then m ≤ s.gates.stem.count else s.gates.stem.count ≤ m

/-- The start procedure of R99, after the motor stop of a motion that goes the other way (R100). It completes
with the limit's Arrival, with SEAT or with COUNT; or the dwell governs, and the drive waits in DWELL; or the
motor starts, but a barrier that starts down under an active OBSTRUCTION stops again (R108). That a command
carrying no Stop Count waits in DWELL with none held, whatever was held before, is the model's choice (log
35). -/
def startProceeds (d : DriveId) (up : Bool) (stop : Option Nat) (s t : State) (n : News) : Prop :=
  let x := s.drive d
  let toward (u : Bool) := if u then Direction.up else .down
  let last := if x.isDriving then toward (!up) else x.lastDir
  let dwell := if x.isDriving then .running (Param.reversalDwell s.prof) else x.dwell
  let atLimit := s.limit d up = true
  let seated := d = .penstock ∧ up = false ∧ s.gates.stem.seatFlag = true
  let governed := dwell.isRunning = true ∧ (last = .both ∨ last = toward (!up))
  let obstructed := ∃ b, d = .barrier b ∧ up = false ∧ s.level (.obstruction b) = true
  let moved (y : Drive) (stem : Stem) := t.drive d = y ∧
    t.gates.stem = (if d = .penstock then stem else s.gates.stem) ∧
    (∀ e, e ≠ d → t.drive e = s.drive e) ∧ Changes [.gates] [] s t
  (atLimit → completes d (if up then .up else .down) s t n) ∧
  (¬ atLimit → seated → completes d .seat s t n) ∧
  (¬ atLimit → ¬ seated → countReached s up stop → completes d .count s t n) ∧
  (¬ atLimit → ¬ seated → ¬ countReached s up stop →
    (governed → n = .quiet ∧
      moved
        { x with
          state := .dwell, pending := toward up, arrival := .none, lastDir := last, dwell := dwell
          travel := if x.isDriving then .stopped else x.travel }
        { s.gates.stem with
          stopCount := stop, stall := if x.isDriving then .stopped else s.gates.stem.stall }) ∧
    (¬ governed → obstructed → n = .obstructed ∧
      moved
        { x with
          state := .stopped, pending := .none, arrival := .none, lastDir := .down
          dwell := .running (Param.reversalDwell s.prof), travel := .stopped }
        s.gates.stem) ∧
    (¬ governed → ¬ obstructed → n = .quiet ∧
      moved
        { x with
          state := if up then .drivingUp else .drivingDown, pending := .none, arrival := .none
          travel := .running (Param.travelTime s.prof d) }
        { s.gates.stem with
          stopCount := stop, stall := .running (Param.stallTime s.prof)
          seatFlag := s.gates.stem.seatFlag && !up }))

/-- A STOP command: nothing in STOPPED and FAULTED, and otherwise the drive rests with Arrival NONE (R99, R100,
R101, R105). -/
def stopCommanded (d : DriveId) (s t : State) (n : News) : Prop :=
  let idle := (s.drive d).state = .stopped ∨ (s.drive d).state = .faulted
  n = .quiet ∧ (idle → t = s) ∧ (¬ idle → driveRests d .none s t)

/-- An UP or DOWN command by R99 to R101: ignored in FAULTED (R105) and by a barrier that may not go down (R107),
a STOP where it carries a Stop Count while the penstock is UNREFERENCED (R112); in the direction of the motion
or of the pending start it replaces the Stop Count alone, which completes a motion that has reached it; otherwise
the start procedure runs. -/
def moveCommanded (d : DriveId) (up : Bool) (stop : Option Nat) (s t : State) (n : News) : Prop :=
  let x := s.drive d
  let ignored := x.state = .faulted ∨ (d ≠ .penstock ∧ up = false ∧ x.permit = false)
  let blind := stop.isSome = true ∧ s.gates.stem.referenced = false
  let driving := x.state = if up then DriveState.drivingUp else .drivingDown
  let waiting := x.state = .dwell ∧ x.pending = if up then Direction.up else .down
  let recounted : State :=
    if d = .penstock then { s with gates := { s.gates with stem := { s.gates.stem with stopCount := stop } } }
    else s
  (ignored → t = s ∧ n = .quiet) ∧
  (¬ ignored → blind → stopCommanded d s t n) ∧
  (¬ ignored → ¬ blind →
    (driving → countReached s up stop → completes d .count s t n) ∧
    (driving → ¬ countReached s up stop → t = recounted ∧ n = .quiet) ∧
    (waiting → t = recounted ∧ n = .quiet) ∧
    (¬ driving → ¬ waiting → startProceeds d up stop s t n))

/-- What a command given to a drive does (6.2), and what the drive delivers to its commander. -/
def driveCommanded (d : DriveId) (c : DriveCommand) (s t : State) (n : News) : Prop :=
  match c with
  | .stop => stopCommanded d s t n
  | .up stop => moveCommanded d true stop s t n
  | .down stop => moveCommanded d false stop s t n

/-- R99, R100, R101, R107, R112, R121, R123, R153: the penstock words. Each is refused NOT_AUTHORITY from a link
that does not hold the PENSTOCK unit; OPEN is refused PROTECTIVE during Backflow; a demand for a position, by
the Action word or by a Position word under Action POSITION, is refused NOT_REFERENCED, and then PROTECTIVE
during Backflow above the present Position. An accepted word is stored, sets the target in force where it names
one, and the drive is given the command of R121: nothing else. What a command does at a drive is
`driveCommanded` (R99, R100, R101, R105, R107, R108, R112), a barrier's commands carrying no Stop Count. That a
command which completes at once by case 1, 2 or 3 of R99 leaves no Stop Count held, and that one carrying no Stop
Count which waits in DWELL by case 4 leaves none held, are the model's choices (log 35). -/
def Obligations.PenstockWords : Prop :=
  ∀ (s : State) (k : Link) (v : Word),
    let held := (s.link k).state = .active ∧ s.authority.penstock = .link k
    let refused (a : Addr) (r : Reason) (v : Word) (t : State) := t = s.refuse k a r v
    let stored (f : Demands → Demands) : State :=
      { s with authority := { s.authority with demands := f s.authority.demands } }
    let commanded (u : State) (c : DriveCommand) (t : State) := t = (commandDrive .penstock c u).1
    let positioned (u : State) (p : Nat) (t : State) :=
      let n := p * Param.travelCounts s.prof / 1000
      commanded { u with penstock := { s.penstock with target := .position, targetPos := p } }
        (if s.gates.stem.count < n then .up (some n) else .down (some n)) t
    let judged (a : Addr) (v : Word) (p : Nat) (u t : State) :=
      (s.gates.stem.referenced = false → refused a .notReferenced v t) ∧
      (s.gates.stem.referenced = true → s.penstock.backflow = true → s.position < p →
        refused a .protective v t) ∧
      (s.gates.stem.referenced = true → (s.penstock.backflow = false ∨ p ≤ s.position) →
        positioned u p t)
    let p := min v.toNat 1000
    (Applies (.actionHold k) k 0x14C 0 s fun t =>
      (¬ held → refused 0x14C .notAuthority 0 t) ∧
      (held → t = stored fun x => { x with action := .hold })) ∧
    (Applies (.actionOpen k) k 0x14C 1 s fun t =>
      (¬ held → refused 0x14C .notAuthority 1 t) ∧
      (held → s.penstock.backflow = true → refused 0x14C .protective 1 t) ∧
      (held → s.penstock.backflow = false →
        commanded { stored (fun x => { x with action := .open }) with
          penstock := { s.penstock with target := .open } } (.up none) t)) ∧
    (Applies (.actionClosed k) k 0x14C 2 s fun t =>
      (¬ held → refused 0x14C .notAuthority 2 t) ∧
      (held → commanded { stored (fun x => { x with action := .closed }) with
        penstock := { s.penstock with target := .closed } } (.down none) t)) ∧
    (Applies (.actionPosition k) k 0x14C 3 s fun t =>
      (¬ held → refused 0x14C .notAuthority 3 t) ∧
      (held → judged 0x14C 3 s.authority.demands.position
        (stored fun x => { x with action := .position }) t)) ∧
    (Applies (.positionWord k v) k 0x14D v s fun t =>
      (¬ held → refused 0x14D .notAuthority v t) ∧
      (held → s.authority.demands.action ≠ .position → t = stored fun x => { x with position := p }) ∧
      (held → s.authority.demands.action = .position →
        judged 0x14D v p (stored fun x => { x with position := p }) t)) ∧
    (∀ d c, (d ≠ .penstock → c = .up none ∨ c = .down none ∨ c = .stop) →
      driveCommanded d c s (commandDrive d c s).1 (commandDrive d c s).2)

/-- The road has moved between `s` and `t` with these reports, the penstock untouched. -/
def roadMoved (es : List Report) (s t : State) : Prop :=
  Changes [.signals, .gates, .closure] es s t ∧
    t.drive .penstock = s.drive .penstock ∧ t.gates.stem = s.gates.stem

/-- CLOSE has been accepted in a state other than HALTED (R132, R140, R141). -/
def closeActs (s t : State) : Prop :=
  match s.closure.state with
  | .open => roadMoved [(.closureState, 0, ClosureState.alert.code)] s t ∧ alerted s t
  | .raising => (∃ es, roadMoved ((.closureState, 0, (reclosesInto s).code) :: es) s t) ∧ reclosed s t
  | .alert | .stop | .lowering | .closed | .halted => t = s

/-- RESUME has been accepted in HALTED (R137): the barrier drives are cleared (R106), and the road is in STOP, its
Clearance Timer running at once where both approaches are proved (R133), which reds that were lit already stay
(R128). -/
def resumeActs (s t : State) : Prop :=
  roadMoved [(.closureState, 0, ClosureState.stop.code)] s t ∧
    t.closure.state = .stop ∧ t.closure.halt = .none ∧ clearanceJudged s t ∧
    (s.signals.lampTest = false → (∀ n : SignalId, (s.signal n).commanded = (aspectsOf .halted)[n]) →
      t.signals = s.signals) ∧
    t.closure.obstructions = s.closure.obstructions ∧
    ∀ b, (s.drive (.barrier b)).state = .faulted →
      t.drive (.barrier b) =
        if s.limit (.barrier b) true && s.limit (.barrier b) false then
          { s.drive (.barrier b) with fault := .limitConflict, permit := false }
        else
          { s.drive (.barrier b) with
            state := .stopped, fault := .none, arrival := .none, permit := false }

/-- An accepted reopen leads to OPEN: the road is in ALERT or STOP with both barriers up (R139). -/
abbrev reopensAtOnce (s : State) : Prop :=
  barriersUp s = true ∧ (s.closure.state = .alert ∨ s.closure.state = .stop)

/-- A reopen would enter RAISING while a barrier drive is FAULTED (R139). -/
def raisingBarred (s : State) : Prop :=
  s.closure.state ≠ .open ∧ s.closure.state ≠ .raising ∧ ¬ reopensAtOnce s ∧
    ∃ b, (s.drive (.barrier b)).state = .faulted

/-- A reopen has been accepted where nothing bars it (R139, R140), stated where no trigger acts on what follows
(R131). Under HAND a standing trigger is advised of after it. -/
def reopenActs (s t : State) : Prop :=
  match s.closure.state with
  | .open | .raising => t = s
  | .alert | .stop | .lowering | .closed | .halted =>
    s.closure.trigger = false ∨ s.authority.road = .hand →
      if reopensAtOnce s then
        (∃ es, roadMoved ((.closureState, 0, ClosureState.open.code) :: es) s t ∧
          (s.closure.trigger = false → es = [])) ∧
        t.closure.state = .open ∧ t.closure.halt = .none ∧ ∀ n, (t.signal n).commanded = .dark
      else
        (∃ es, roadMoved ((.closureState, 0, ClosureState.raising.code) :: es) s t) ∧
        (t.closure.state = .raising ∨ t.closure.state = .open) ∧
        ((∀ b, s.limit (.barrier b) true = true ∧ (s.drive (.barrier b)).state = .stopped) →
          t.closure.state = .open) ∧
        ∀ b, s.limit (.barrier b) true = false →
          t.closure.state = .raising ∧ t.closure.phase b = .ascending ∧
          ((t.drive (.barrier b)).state = .drivingUp ∨
            ((t.drive (.barrier b)).state = .dwell ∧ (t.drive (.barrier b)).pending = .up))

/-- R141, R132, R137, R139, R140, R153, R158: the road words by the table of R141. NONE is stored; CLOSE
starts a closure in OPEN, re-closes in RAISING, is refused STATE in HALTED; RESUME is refused STATE but in
HALTED, which it leaves for STOP with the barrier drives cleared (R106); REOPEN is refused DEPTH_UNKNOWN,
DEPTH_HIGH or STATE, and otherwise reopens the road. The panel's CLOSE and REOPEN buttons, as they become
active, act only under HAND: CLOSE as an accepted CLOSE, in HALTED as RESUME, and REOPEN without the
carriageway check, ignored where a link's would be refused STATE. What follows an accepted reopen is stated
while no trigger acts (R131), and all of it where Red Proven is what the Proof States give (R95). -/
def Obligations.RoadWords : Prop :=
  ∀ (s : State) (k : Link), RedDerived s →
    let held := (s.link k).state = .active ∧ s.authority.road = .link k
    let stored (a : RoadAction) : State :=
      { s with authority := { s.authority with demands := { s.authority.demands with road := a } } }
    let depth := s.channels.carriageway
    let pressed (b : PanelButton) (Q : State → State → Prop) :=
      s.phase = .running → (s.inputs.get (.button b)).timer.isRunning = true →
      (s.inputs.get (.button b)).pin = true → (s.inputs.get (.button b)).level = false →
      ∃ t, exec (.debounceTimerExpiry (.button b)) s = .next t ∧
        (s.authority.road ≠ .hand → t = qualified s (.button b)) ∧
        (s.authority.road = .hand → Q (qualified s (.button b)) t)
    (Applies (.roadDemandNone k) k 0x14E 0 s fun t =>
      (¬ held → t = s.refuse k 0x14E .notAuthority 0) ∧
      (held → t = stored .none)) ∧
    (Applies (.close k) k 0x14E 1 s fun t =>
      (¬ held → t = s.refuse k 0x14E .notAuthority 1) ∧
      (held → s.closure.state = .halted → t = s.refuse k 0x14E .state 1) ∧
      (held → s.closure.state ≠ .halted → closeActs (stored .close) t)) ∧
    (Applies (.resume k) k 0x14E 3 s fun t =>
      (¬ held → t = s.refuse k 0x14E .notAuthority 3) ∧
      (held → s.closure.state ≠ .halted → t = s.refuse k 0x14E .state 3) ∧
      (held → s.closure.state = .halted → resumeActs (stored .resume) t)) ∧
    (Applies (.reopen k) k 0x14E 2 s fun t =>
      (¬ held → t = s.refuse k 0x14E .notAuthority 2) ∧
      (held → depth.state ≠ .healthy → t = s.refuse k 0x14E .depthUnknown 2) ∧
      (held → depth.state = .healthy →
        (Param.reopenDepth s.prof < depth.reported ∨ s.level (.float .roadFlood) = true) →
        t = s.refuse k 0x14E .depthHigh 2) ∧
      (held → depth.state = .healthy → depth.reported ≤ Param.reopenDepth s.prof →
        s.level (.float .roadFlood) = false →
        (raisingBarred s → t = s.refuse k 0x14E .state 2) ∧
        (¬ raisingBarred s → reopenActs (stored .reopen) t))) ∧
    pressed .close (fun q t => if q.closure.state = .halted then resumeActs q t else closeActs q t) ∧
    pressed .reopen (fun q t => (raisingBarred q → t = q) ∧ (¬ raisingBarred q → reopenActs q t))

/-- R76, R74, R153: a mode word from the holder re-forms every group's Requested Duty, from the duty words in
FIXED and from the Current Stage in FOLLOW_STAGE; a duty word is stored clamped to 1000, and re-forms its own
group's request while the mode is FIXED; a changed request makes a load evaluation due. From any other link each
is refused NOT_AUTHORITY. Stated under a SITE profile, without which no link holds the unit (R145). -/
def Obligations.LightingWords : Prop :=
  ∀ (s : State) (k : Link) (fixed : Bool) (g : GroupId) (v : Word), s.profile.site = true →
    let held := (s.link k).state = .active ∧ s.authority.lighting = .link k
    let demands := s.authority.demands
    let duties := demands.duties.set g (min v.toNat 1000)
    let reformed (t : State) (h : GroupId) (fixed : Bool) (duties : Vector Nat 6) :=
      t.group h =
        { s.group h with
          requested := min 1000
            (if fixed then duties[h] else Param.stageDuty s.prof s.lighting.stage h)
          source := if fixed then .linkFixed else .stage }
    let framed (t : State) := Changes [.lighting, .load, .authority] [] s t ∧
      t.lighting = { s.lighting with groups := t.lighting.groups } ∧
      t.load = { s.load with evalDue :=
        s.load.evalDue || allGroups.any fun h => (t.group h).requested != (s.group h).requested }
    (Applies (if fixed then .modeFixed k else .modeFollowStage k) k 0x150 (if fixed then 1 else 0) s
      fun t =>
        (¬ held → t = s.refuse k 0x150 .notAuthority (if fixed then 1 else 0)) ∧
        (held → framed t ∧
          t.authority = { s.authority with demands := { demands with fixed := fixed } } ∧
          ∀ h, reformed t h fixed demands.duties)) ∧
    (Applies (.dutyWord k g v) k (dutyAddr g) v s fun t =>
      (¬ held → t = s.refuse k (dutyAddr g) .notAuthority v) ∧
      (held → framed t ∧
        t.authority = { s.authority with demands := { demands with duties := duties } } ∧
        (∀ h, h ≠ g → t.group h = s.group h) ∧
        (demands.fixed = true → reformed t g true duties) ∧
        (demands.fixed = false → t.group g = s.group g)))

/-- A clear of a drive (R106). -/
def driveCleared (s : State) (d : DriveId) : Drive :=
  if (s.drive d).state ≠ .faulted then s.drive d
  else if s.limit d true && s.limit d false then { s.drive d with fault := .limitConflict }
  else { s.drive d with state := .stopped, fault := .none, arrival := .none }

/-- The unit is under HAND or AUTO: FAULT RESET clears it (R157). -/
abbrev panelClears (s : State) (w : UnitId) : Prop := s.authorityOf w = .hand ∨ s.authorityOf w = .auto

/-- A FAULTED pump that an accepted clear releases: not Installed (R23), or with its TRIPPED input inactive
(R33). -/
abbrev clearable (s : State) (p : PumpId) : Prop :=
  (s.pump p).state = .faulted ∧ (s.installed p = false ∨ s.level (.tripped p) = false)

/-- The Pump Record of a pump that an accepted clear has released (R33). -/
def pumpCleared (s : State) (p : PumpId) : Pump :=
  { stopRecord s p (if s.runProven p then .uncommanded else (s.pump p).stopCause) with faultCause := .none }

/-- An accepted clear has reached the penstock (R106, R122): its drive is cleared and commanded afresh. -/
def penstockCleared (s : State) : State :=
  let y : State := { s with gates := { s.gates with penstock := driveCleared s .penstock } }
  if s.gates.penstock.state = .faulted ∧ (driveCleared s .penstock).state = .stopped then
    (commandDrive .penstock (targetCommand s) y).1
  else y

/-- A signal channel after an accepted ROAD clear (R96). -/
def signalCleared (s : State) (n : SignalId) : SignalChannel :=
  { s.signal n with
    failFlag := false
    proof := if (s.signal n).proof = .failed then .unproven else (s.signal n).proof
    miss := if (s.signal n).proof = .failed then 0 else (s.signal n).miss }

/-- An accepted LIGHTING clear ends the group's fault (R84). -/
def groupFreed (s : State) (g : GroupId) : Bool := (s.group g).fault == .latched && !s.level (.driverFault g)

/-- R156, R33, R84, R96, R106, R122, R157: a CLEAR is refused with the first reason of R156 that matches; an
accepted one adds 1 to the unit's count alone and acts on the unit. A pump that is not FAULTED, or is
Installed with its TRIPPED input active (R23), is as it was, and another FAULTED pump enters STOPPING or
RESTING; the penstock's drive is cleared and commanded afresh; both barrier drives and the eight signal
channels are cleared; LATCHED groups without an active input lose their fault, with a load evaluation due.
FAULT RESET becoming active is one accepted clear of every unit under HAND or AUTO, and of no unit that a link
holds. -/
def Obligations.ClearWord : Prop :=
  ∀ (s : State) (k : Link) (u : UnitId), RedDerived s →
    (Applies (.clear k u) k (faultClearAddr u) 1 s fun t =>
      let refused (r : Reason) := t = s.refuse k (faultClearAddr u) r 1
      if (s.link k).state ≠ .active then refused .notAuthority
      else if s.authorityOf u = .hand then refused .panelHasControl
      else if s.authorityOf u = .link (otherLink k) then refused .notAuthority
      else
        let x : State := { s with authority := t.authority }
        (∀ w, t.clearCount w = if w = u then s.clearCount w + 1 else s.clearCount w) ∧
        (∀ w, t.authorityOf w = s.authorityOf w) ∧ t.authority.demands = s.authority.demands ∧
        match u with
        | .pump p =>
          if clearable s p then
            Changes [.pumps, .load, .authority] [] s t ∧ t.pump p = pumpCleared s p ∧
            (s.installed p = true → s.authorityOf (.pump p) = .auto → p ∈ t.rotation)
          else t = x
        | .penstock => t = penstockCleared x
        | .road =>
          t = { x with
            gates := { s.gates with
              barrier1 := driveCleared s (.barrier .one), barrier2 := driveCleared s (.barrier .two) }
            signals := { s.signals with channels := t.signals.channels } } ∧
          ∀ n, t.signal n = signalCleared s n
        | .lighting =>
          t = { x with
            lighting := { s.lighting with groups := t.lighting.groups }
            load := { s.load with evalDue := s.load.evalDue || allGroups.any (groupFreed s) } } ∧
          ∀ g, t.group g = { s.group g with fault := if groupFreed s g then .none else (s.group g).fault }) ∧
    (let reset := InputId.button .faultReset
     let q := qualified s reset
     s.phase = .running → (s.inputs.get reset).timer.isRunning = true →
     (s.inputs.get reset).pin = true → (s.inputs.get reset).level = false →
     ∃ t, exec (.debounceTimerExpiry reset) s = .next t ∧
      Touches [.pumps, .load, .lighting, .signals, .gates, .authority] q t ∧
      (∀ w, t.clearCount w = if panelClears q w then q.clearCount w + 1 else q.clearCount w) ∧
      (∀ w, t.authorityOf w = q.authorityOf w) ∧ t.authority.demands = q.authority.demands ∧
      (∀ p, (q.pump p).state = .faulted →
        if panelClears q (.pump p) ∧ clearable q p then
          t.pump p = pumpCleared q p ∧
          (q.installed p = true → q.authorityOf (.pump p) = .auto → p ∈ t.rotation)
        else (t.pump p).state = .faulted ∧ (t.pump p).faultCause = (q.pump p).faultCause) ∧
      (panelClears q .penstock → t.gates.penstock = (penstockCleared q).gates.penstock ∧
        t.gates.stem = (penstockCleared q).gates.stem) ∧
      (¬ panelClears q .penstock → t.gates.penstock = q.gates.penstock ∧ t.gates.stem = q.gates.stem) ∧
      (panelClears q .road → (∀ b, t.drive (.barrier b) = driveCleared q (.barrier b)) ∧
        ∀ n, t.signal n = signalCleared q n) ∧
      (¬ panelClears q .road → t.signals = q.signals ∧ ∀ b, t.drive (.barrier b) = q.drive (.barrier b)) ∧
      (panelClears q .lighting → ∀ g, t.group g =
        { q.group g with fault := if groupFreed q g then .none else (q.group g).fault }) ∧
      (¬ panelClears q .lighting → t.lighting = q.lighting))

/-- R172, R173, R170, R171: an acknowledge of the entry under an ACTIVE link's cursor moves the cursor on, and
removes the entries that no ACTIVE link still needs; any other value is refused SEQUENCE_MISMATCH. An append
to a full queue of 32 loses the oldest entry; a cursor that stood on it moves on, with MISSED set; every
present cursor then counts one entry more. -/
def Obligations.EventQueueMoves : Prop :=
  ∀ (s : State) (k : Link) (seq : Word) (kind : EventKind) (subject detail : Nat),
    EventsBounded s → CursorsKept s →
    (Applies (.eventAcknowledge k seq) k 0x196 seq s fun t =>
      if (s.link k).state = .active ∧ (s.underCursor k).any (fun e => e.seq == seq) = true then
        (∀ n, (s.link k).unread = some n →
          t.link k = { s.link k with unread := some (n - 1), acked := seq } ∧
          t.events.entries.length = max (n - 1) (((s.link (otherLink k)).unread).getD 0)) ∧
        (∃ n, t.events = { s.events with entries := s.events.entries.drop n }) ∧
        imageWord t k 0x196 = seq ∧
        t = { s with linkA := t.linkA, linkB := t.linkB, events := t.events } ∧
        t.link (otherLink k) = s.link (otherLink k)
      else t = s.refuse k 0x196 .sequenceMismatch seq) ∧
    (let t := s.append kind subject detail
     let e : Event := { seq := s.events.nextSeq, kind := kind, subject := subject
                        detail := BitVec.ofNat 16 detail, time := s.stationClock }
     let full := s.events.entries.length = 32
     t.events = { entries := (if full then s.events.entries.drop 1 else s.events.entries) ++ [e]
                  nextSeq := s.events.nextSeq + 1 } ∧
     t.link k =
       if (s.link k).unread = none then s.link k
       else if full ∧ (s.link k).unread = some 32 then { s.link k with missed := true }
       else { s.link k with unread := (s.link k).unread.map (· + 1) })

/-- The range of the parameter at an offset of the profile, where one stands there: the Min and Max of the
parameter tables of the chapters, at the offsets of 12.4. LUMINANCE has no Mount but 0 (R178). -/
def parameterRange (off : Nat) : Option (Nat × Nat) :=
  let station := [(50, 1000), (20, 500), (0, 5000), (5, 120), (1, 9999), (0, 5000), (1, 4), (2, 120), (10, 60),
    (1, 65535), (1, 65535), (0, 65534), (0, 60), (1, 60), (500, 2000), (1000, 20000)]
  let channel := [(100, 20000), (1000, 40000), (1, 20000), (0, if off < 0x34 then 20000 else 0), (0, 65535),
    (1, 65535), (0, 6), (0, 5000), (50, 2000)]
  let pump := [(0, 1), (0, 65535), (2, 30), (2, 30), (10, 900), (10, 900), (1, 12)]
  let selector := [(1, 8), (0, 5000), (10, 600)]
  let group := [(0, 20000), (0, 1000), (1, 6), (0, 999), (0, 1)]
  let gate := [(50, 1000), (5, 120), (10, 600), (100, 65535), (0, 5000), (0, 10000), (1, 30)]
  let penstock := [(0, 5000), (0, 5000), (10, 3600)]
  let closure := [(10, 20000), (0, 19990), (0, 600), (0, 40000), (5, 120), (5, 300), (2, 120), (0, 10)]
  if off < 0x10 then station[off]?
  else if off < 0x3D then channel[(off - 0x10) % 9]?
  else if off < 0x40 then none
  else if off < 0x50 then some (0, 40000)
  else if off < 0x70 then pump[(off - 0x50) % 8]?
  else if off < 0x78 then selector[off - 0x70]?
  else if off < 0x96 then group[(off - 0x78) % 5]?
  else if off < 0x98 then none
  else if off < 0xD0 then some (0, if (off - 0x98) % 7 = 0 then 20000 else 1000)
  else if off < 0xD8 then gate[off - 0xD0]?
  else if off < 0xE0 then penstock[off - 0xD8]?
  else closure[off - 0xE0]?

/-- The relation pass of R178: each check in its order, with the offset of the word that it names. -/
def relations (w : Vector Word 256) : List (Bool × Nat) :=
  let word (off : Nat) : Nat := (w[off]?.getD 0).toNat
  let below (a b named : Nat) : Bool × Nat := (decide (word a < word b), named)
  let sets := [0x40, 0x48]
  let priority (g : Nat) := 0x78 + 5 * g + 2
  let threshold (stage : Nat) := 0x98 + 7 * (stage - 1)
  let pumps := ([0, 1, 2, 3].filter fun p => word (0x50 + 8 * p) != 0).length
  ([0, 1, 2, 3, 4].map fun c => below (0x10 + 9 * c + 4) (0x10 + 9 * c + 5) (0x10 + 9 * c + 5)) ++
  (sets.flatMap fun b => [1, 2, 3].map fun k => below (b + k - 1) (b + k) (b + k)) ++
  (sets.flatMap fun b => [0, 1, 2, 3].map fun k => below (b + 4 + k) (b + k) (b + 4 + k)) ++
  (sets.flatMap fun b => [1, 2, 3].map fun k =>
    (decide ((word 0x05 : Int) < (word (b + k) : Int) - word (b + 4 + k)), 0x05)) ++
  [below 0xE1 0xE0 0xE1,
    (decide (word 0x0B < word 0x09 ∧ word 0x0B < word 0x0A), 0x0B),
    (decide (word (threshold 1) = 0), threshold 1)] ++
  ([2, 3, 4, 5, 6, 7, 8].map fun n =>
    (decide (n ≤ word 0x70 → word (threshold (n - 1)) < word (threshold n)), threshold n)) ++
  ([0, 1, 2, 3, 4, 5].map fun g =>
    (decide (∀ h ∈ List.range g, word (priority h) ≠ word (priority g)), priority g)) ++
  [(decide (1 ≤ pumps), 0x50), (decide (word 0x06 ≤ pumps), 0x06)]

/-- The offset of the word at which validation stops (R178): the first parameter word outside its range in
ascending address, and with none the word named by the first check of the relation pass that fails. -/
def firstFailing (w : Vector Word 256) : Option Nat :=
  let bad (off : Nat) : Bool := match parameterRange off with
    | none => false
    | some (lo, hi) => decide (¬ (lo ≤ (w[off]?.getD 0).toNat ∧ (w[off]?.getD 0).toNat ≤ hi))
  ((List.range 256).find? bad).or (((relations w).find? fun c => !c.1).map fun c => c.2)

/-- R177, R178, R179: a Profile Control word is judged by the first row of R177 that matches, a staging word
by the same reasons. OPEN_EDIT loads the staging and makes the link the owner; ABANDON closes the edit; COMMIT
validates the staging, and either reports the failing word's address (PROFILE_REFUSED), leaving the edit open,
or begins the NV write, whose copy is invalid from then on. Validation stops at the word that `firstFailing`
gives: the first outside its range, or the one that the first failing relation names. So a profile that passes
has, among the rest, its spans, its reopen and capacity relations and its Priorities in order. -/
def Obligations.EditWords : Prop :=
  ∀ (s : State) (k : Link) (offset : BitVec 8) (v : Word) (w : Vector Word 256),
    let judged (a : Addr) (v : Word) (opening : Bool) (accepted : State → Prop) (t : State) :=
      if (s.link k).state ≠ .active then t = s.refuse k a .notAuthority v
      else if s.profile.commit = .writing then t = s.refuse k a .commitInProgress v
      else match s.profile.owner with
        | none => if opening then accepted t else t = s.refuse k a .noEdit v
        | some j => if j = k then accepted t else t = s.refuse k a .editHeld v
    (Applies (.openEdit k) k 0x1A0 1 s (judged 0x1A0 1 true fun t =>
      t = if s.profile.owner = some k then s
        else { s with profile := { s.profile with
          staging := s.profile.active, owner := some k, outcome := .none, failAddr := 0 } })) ∧
    (Applies (.abandon k) k 0x1A0 2 s (judged 0x1A0 2 false fun t =>
      t = { s with profile := { s.profile with owner := none, outcome := .abandoned } })) ∧
    (Applies (.stagingWord k offset v) k (stagingAddr offset) v s
      (judged (stagingAddr offset) v false fun t =>
        t = { s with profile := { s.profile with
          staging := s.profile.staging.set offset.toNat v offset.isLt } })) ∧
    (Applies (.commit k) k 0x1A0 3 s (judged 0x1A0 3 false fun t =>
      match validate s.profile.staging with
      | some off =>
        t = State.append .profileRefused (linkIndex k) (0x300 + off) { s with profile :=
          { s.profile with outcome := .refused, failAddr := BitVec.ofNat 10 (0x300 + off) } }
      | none =>
        t = { s with profile :=
          { s.profile with commit := .writing, failAddr := 0, nvCrc := none, committer := k } })) ∧
    validate w = firstFailing w ∧
    (validate w = none →
      (∀ c, 1000 ≤ Param.spanWidth w c ∧ Param.faultLow w c < Param.faultHigh w c) ∧
      Param.reopenDepth w < Param.closureDepth w ∧ Param.gateReserve w < Param.mainsCapacity w ∧
      Param.gateReserve w < Param.generatorCapacity w ∧
      (∀ g h : GroupId, g ≠ h → Param.priority w g ≠ Param.priority w h) ∧
      ∀ g : GroupId, 1 ≤ Param.priority w g ∧ Param.priority w g ≤ 6)
end

