-- ==== Sys2Proof/Laws/State.lean ====
section
/-! SUPPORT. What each update of a part of State leaves in each field: one lemma per field per update. -/

namespace Sys2Proof.Machine

variable (s : State)

/-! ## modInputs -/

@[simp] theorem State.modInputs_phase (f : Inputs → Inputs) : (s.modInputs f).phase = s.phase := rfl
@[simp] theorem State.modInputs_restartCause (f : Inputs → Inputs) :
    (s.modInputs f).restartCause = s.restartCause := rfl
@[simp] theorem State.modInputs_stationClock (f : Inputs → Inputs) :
    (s.modInputs f).stationClock = s.stationClock := rfl
@[simp] theorem State.modInputs_subSecond (f : Inputs → Inputs) :
    (s.modInputs f).subSecond = s.subSecond := rfl
@[simp] theorem State.modInputs_timebase (f : Inputs → Inputs) : (s.modInputs f).timebase = s.timebase := rfl
@[simp] theorem State.modInputs_inputs (f : Inputs → Inputs) : (s.modInputs f).inputs = f s.inputs := rfl
@[simp] theorem State.modInputs_channels (f : Inputs → Inputs) : (s.modInputs f).channels = s.channels := rfl
@[simp] theorem State.modInputs_sump (f : Inputs → Inputs) : (s.modInputs f).sump = s.sump := rfl
@[simp] theorem State.modInputs_pumps (f : Inputs → Inputs) : (s.modInputs f).pumps = s.pumps := rfl
@[simp] theorem State.modInputs_stages (f : Inputs → Inputs) : (s.modInputs f).stages = s.stages := rfl
@[simp] theorem State.modInputs_rotation (f : Inputs → Inputs) : (s.modInputs f).rotation = s.rotation := rfl
@[simp] theorem State.modInputs_load (f : Inputs → Inputs) : (s.modInputs f).load = s.load := rfl
@[simp] theorem State.modInputs_lighting (f : Inputs → Inputs) : (s.modInputs f).lighting = s.lighting := rfl
@[simp] theorem State.modInputs_signals (f : Inputs → Inputs) : (s.modInputs f).signals = s.signals := rfl
@[simp] theorem State.modInputs_gates (f : Inputs → Inputs) : (s.modInputs f).gates = s.gates := rfl
@[simp] theorem State.modInputs_penstock (f : Inputs → Inputs) : (s.modInputs f).penstock = s.penstock := rfl
@[simp] theorem State.modInputs_closure (f : Inputs → Inputs) : (s.modInputs f).closure = s.closure := rfl
@[simp] theorem State.modInputs_authority (f : Inputs → Inputs) :
    (s.modInputs f).authority = s.authority := rfl
@[simp] theorem State.modInputs_linkA (f : Inputs → Inputs) : (s.modInputs f).linkA = s.linkA := rfl
@[simp] theorem State.modInputs_linkB (f : Inputs → Inputs) : (s.modInputs f).linkB = s.linkB := rfl
@[simp] theorem State.modInputs_events (f : Inputs → Inputs) : (s.modInputs f).events = s.events := rfl
@[simp] theorem State.modInputs_profile (f : Inputs → Inputs) : (s.modInputs f).profile = s.profile := rfl
@[simp] theorem State.modInputs_choices (f : Inputs → Inputs) : (s.modInputs f).choices = s.choices := rfl
@[simp] theorem State.modInputs_pending (f : Inputs → Inputs) : (s.modInputs f).pending = s.pending := rfl

/-! ## modSump -/

@[simp] theorem State.modSump_phase (f : Sump → Sump) : (s.modSump f).phase = s.phase := rfl
@[simp] theorem State.modSump_restartCause (f : Sump → Sump) :
    (s.modSump f).restartCause = s.restartCause := rfl
@[simp] theorem State.modSump_stationClock (f : Sump → Sump) :
    (s.modSump f).stationClock = s.stationClock := rfl
@[simp] theorem State.modSump_subSecond (f : Sump → Sump) : (s.modSump f).subSecond = s.subSecond := rfl
@[simp] theorem State.modSump_timebase (f : Sump → Sump) : (s.modSump f).timebase = s.timebase := rfl
@[simp] theorem State.modSump_inputs (f : Sump → Sump) : (s.modSump f).inputs = s.inputs := rfl
@[simp] theorem State.modSump_channels (f : Sump → Sump) : (s.modSump f).channels = s.channels := rfl
@[simp] theorem State.modSump_sump (f : Sump → Sump) : (s.modSump f).sump = f s.sump := rfl
@[simp] theorem State.modSump_pumps (f : Sump → Sump) : (s.modSump f).pumps = s.pumps := rfl
@[simp] theorem State.modSump_stages (f : Sump → Sump) : (s.modSump f).stages = s.stages := rfl
@[simp] theorem State.modSump_rotation (f : Sump → Sump) : (s.modSump f).rotation = s.rotation := rfl
@[simp] theorem State.modSump_load (f : Sump → Sump) : (s.modSump f).load = s.load := rfl
@[simp] theorem State.modSump_lighting (f : Sump → Sump) : (s.modSump f).lighting = s.lighting := rfl
@[simp] theorem State.modSump_signals (f : Sump → Sump) : (s.modSump f).signals = s.signals := rfl
@[simp] theorem State.modSump_gates (f : Sump → Sump) : (s.modSump f).gates = s.gates := rfl
@[simp] theorem State.modSump_penstock (f : Sump → Sump) : (s.modSump f).penstock = s.penstock := rfl
@[simp] theorem State.modSump_closure (f : Sump → Sump) : (s.modSump f).closure = s.closure := rfl
@[simp] theorem State.modSump_authority (f : Sump → Sump) : (s.modSump f).authority = s.authority := rfl
@[simp] theorem State.modSump_linkA (f : Sump → Sump) : (s.modSump f).linkA = s.linkA := rfl
@[simp] theorem State.modSump_linkB (f : Sump → Sump) : (s.modSump f).linkB = s.linkB := rfl
@[simp] theorem State.modSump_events (f : Sump → Sump) : (s.modSump f).events = s.events := rfl
@[simp] theorem State.modSump_profile (f : Sump → Sump) : (s.modSump f).profile = s.profile := rfl
@[simp] theorem State.modSump_choices (f : Sump → Sump) : (s.modSump f).choices = s.choices := rfl
@[simp] theorem State.modSump_pending (f : Sump → Sump) : (s.modSump f).pending = s.pending := rfl

/-! ## modLoad -/

@[simp] theorem State.modLoad_phase (f : Load → Load) : (s.modLoad f).phase = s.phase := rfl
@[simp] theorem State.modLoad_restartCause (f : Load → Load) :
    (s.modLoad f).restartCause = s.restartCause := rfl
@[simp] theorem State.modLoad_stationClock (f : Load → Load) :
    (s.modLoad f).stationClock = s.stationClock := rfl
@[simp] theorem State.modLoad_subSecond (f : Load → Load) : (s.modLoad f).subSecond = s.subSecond := rfl
@[simp] theorem State.modLoad_timebase (f : Load → Load) : (s.modLoad f).timebase = s.timebase := rfl
@[simp] theorem State.modLoad_inputs (f : Load → Load) : (s.modLoad f).inputs = s.inputs := rfl
@[simp] theorem State.modLoad_channels (f : Load → Load) : (s.modLoad f).channels = s.channels := rfl
@[simp] theorem State.modLoad_sump (f : Load → Load) : (s.modLoad f).sump = s.sump := rfl
@[simp] theorem State.modLoad_pumps (f : Load → Load) : (s.modLoad f).pumps = s.pumps := rfl
@[simp] theorem State.modLoad_stages (f : Load → Load) : (s.modLoad f).stages = s.stages := rfl
@[simp] theorem State.modLoad_rotation (f : Load → Load) : (s.modLoad f).rotation = s.rotation := rfl
@[simp] theorem State.modLoad_load (f : Load → Load) : (s.modLoad f).load = f s.load := rfl
@[simp] theorem State.modLoad_lighting (f : Load → Load) : (s.modLoad f).lighting = s.lighting := rfl
@[simp] theorem State.modLoad_signals (f : Load → Load) : (s.modLoad f).signals = s.signals := rfl
@[simp] theorem State.modLoad_gates (f : Load → Load) : (s.modLoad f).gates = s.gates := rfl
@[simp] theorem State.modLoad_penstock (f : Load → Load) : (s.modLoad f).penstock = s.penstock := rfl
@[simp] theorem State.modLoad_closure (f : Load → Load) : (s.modLoad f).closure = s.closure := rfl
@[simp] theorem State.modLoad_authority (f : Load → Load) : (s.modLoad f).authority = s.authority := rfl
@[simp] theorem State.modLoad_linkA (f : Load → Load) : (s.modLoad f).linkA = s.linkA := rfl
@[simp] theorem State.modLoad_linkB (f : Load → Load) : (s.modLoad f).linkB = s.linkB := rfl
@[simp] theorem State.modLoad_events (f : Load → Load) : (s.modLoad f).events = s.events := rfl
@[simp] theorem State.modLoad_profile (f : Load → Load) : (s.modLoad f).profile = s.profile := rfl
@[simp] theorem State.modLoad_choices (f : Load → Load) : (s.modLoad f).choices = s.choices := rfl
@[simp] theorem State.modLoad_pending (f : Load → Load) : (s.modLoad f).pending = s.pending := rfl

/-! ## modLighting -/

@[simp] theorem State.modLighting_phase (f : Lighting → Lighting) : (s.modLighting f).phase = s.phase := rfl
@[simp] theorem State.modLighting_restartCause (f : Lighting → Lighting) :
    (s.modLighting f).restartCause = s.restartCause := rfl
@[simp] theorem State.modLighting_stationClock (f : Lighting → Lighting) :
    (s.modLighting f).stationClock = s.stationClock := rfl
@[simp] theorem State.modLighting_subSecond (f : Lighting → Lighting) :
    (s.modLighting f).subSecond = s.subSecond := rfl
@[simp] theorem State.modLighting_timebase (f : Lighting → Lighting) :
    (s.modLighting f).timebase = s.timebase := rfl
@[simp] theorem State.modLighting_inputs (f : Lighting → Lighting) :
    (s.modLighting f).inputs = s.inputs := rfl
@[simp] theorem State.modLighting_channels (f : Lighting → Lighting) :
    (s.modLighting f).channels = s.channels := rfl
@[simp] theorem State.modLighting_sump (f : Lighting → Lighting) : (s.modLighting f).sump = s.sump := rfl
@[simp] theorem State.modLighting_pumps (f : Lighting → Lighting) : (s.modLighting f).pumps = s.pumps := rfl
@[simp] theorem State.modLighting_stages (f : Lighting → Lighting) :
    (s.modLighting f).stages = s.stages := rfl
@[simp] theorem State.modLighting_rotation (f : Lighting → Lighting) :
    (s.modLighting f).rotation = s.rotation := rfl
@[simp] theorem State.modLighting_load (f : Lighting → Lighting) : (s.modLighting f).load = s.load := rfl
@[simp] theorem State.modLighting_lighting (f : Lighting → Lighting) :
    (s.modLighting f).lighting = f s.lighting := rfl
@[simp] theorem State.modLighting_signals (f : Lighting → Lighting) :
    (s.modLighting f).signals = s.signals := rfl
@[simp] theorem State.modLighting_gates (f : Lighting → Lighting) : (s.modLighting f).gates = s.gates := rfl
@[simp] theorem State.modLighting_penstock (f : Lighting → Lighting) :
    (s.modLighting f).penstock = s.penstock := rfl
@[simp] theorem State.modLighting_closure (f : Lighting → Lighting) :
    (s.modLighting f).closure = s.closure := rfl
@[simp] theorem State.modLighting_authority (f : Lighting → Lighting) :
    (s.modLighting f).authority = s.authority := rfl
@[simp] theorem State.modLighting_linkA (f : Lighting → Lighting) : (s.modLighting f).linkA = s.linkA := rfl
@[simp] theorem State.modLighting_linkB (f : Lighting → Lighting) : (s.modLighting f).linkB = s.linkB := rfl
@[simp] theorem State.modLighting_events (f : Lighting → Lighting) :
    (s.modLighting f).events = s.events := rfl
@[simp] theorem State.modLighting_profile (f : Lighting → Lighting) :
    (s.modLighting f).profile = s.profile := rfl
@[simp] theorem State.modLighting_choices (f : Lighting → Lighting) :
    (s.modLighting f).choices = s.choices := rfl
@[simp] theorem State.modLighting_pending (f : Lighting → Lighting) :
    (s.modLighting f).pending = s.pending := rfl

/-! ## modSignals -/

@[simp] theorem State.modSignals_phase (f : Signals → Signals) : (s.modSignals f).phase = s.phase := rfl
@[simp] theorem State.modSignals_restartCause (f : Signals → Signals) :
    (s.modSignals f).restartCause = s.restartCause := rfl
@[simp] theorem State.modSignals_stationClock (f : Signals → Signals) :
    (s.modSignals f).stationClock = s.stationClock := rfl
@[simp] theorem State.modSignals_subSecond (f : Signals → Signals) :
    (s.modSignals f).subSecond = s.subSecond := rfl
@[simp] theorem State.modSignals_timebase (f : Signals → Signals) :
    (s.modSignals f).timebase = s.timebase := rfl
@[simp] theorem State.modSignals_inputs (f : Signals → Signals) : (s.modSignals f).inputs = s.inputs := rfl
@[simp] theorem State.modSignals_channels (f : Signals → Signals) :
    (s.modSignals f).channels = s.channels := rfl
@[simp] theorem State.modSignals_sump (f : Signals → Signals) : (s.modSignals f).sump = s.sump := rfl
@[simp] theorem State.modSignals_pumps (f : Signals → Signals) : (s.modSignals f).pumps = s.pumps := rfl
@[simp] theorem State.modSignals_stages (f : Signals → Signals) : (s.modSignals f).stages = s.stages := rfl
@[simp] theorem State.modSignals_rotation (f : Signals → Signals) :
    (s.modSignals f).rotation = s.rotation := rfl
@[simp] theorem State.modSignals_load (f : Signals → Signals) : (s.modSignals f).load = s.load := rfl
@[simp] theorem State.modSignals_lighting (f : Signals → Signals) :
    (s.modSignals f).lighting = s.lighting := rfl
@[simp] theorem State.modSignals_signals (f : Signals → Signals) :
    (s.modSignals f).signals = f s.signals := rfl
@[simp] theorem State.modSignals_gates (f : Signals → Signals) : (s.modSignals f).gates = s.gates := rfl
@[simp] theorem State.modSignals_penstock (f : Signals → Signals) :
    (s.modSignals f).penstock = s.penstock := rfl
@[simp] theorem State.modSignals_closure (f : Signals → Signals) : (s.modSignals f).closure = s.closure := rfl
@[simp] theorem State.modSignals_authority (f : Signals → Signals) :
    (s.modSignals f).authority = s.authority := rfl
@[simp] theorem State.modSignals_linkA (f : Signals → Signals) : (s.modSignals f).linkA = s.linkA := rfl
@[simp] theorem State.modSignals_linkB (f : Signals → Signals) : (s.modSignals f).linkB = s.linkB := rfl
@[simp] theorem State.modSignals_events (f : Signals → Signals) : (s.modSignals f).events = s.events := rfl
@[simp] theorem State.modSignals_profile (f : Signals → Signals) : (s.modSignals f).profile = s.profile := rfl
@[simp] theorem State.modSignals_choices (f : Signals → Signals) : (s.modSignals f).choices = s.choices := rfl
@[simp] theorem State.modSignals_pending (f : Signals → Signals) : (s.modSignals f).pending = s.pending := rfl

/-! ## modGates -/

@[simp] theorem State.modGates_phase (f : Gates → Gates) : (s.modGates f).phase = s.phase := rfl
@[simp] theorem State.modGates_restartCause (f : Gates → Gates) :
    (s.modGates f).restartCause = s.restartCause := rfl
@[simp] theorem State.modGates_stationClock (f : Gates → Gates) :
    (s.modGates f).stationClock = s.stationClock := rfl
@[simp] theorem State.modGates_subSecond (f : Gates → Gates) : (s.modGates f).subSecond = s.subSecond := rfl
@[simp] theorem State.modGates_timebase (f : Gates → Gates) : (s.modGates f).timebase = s.timebase := rfl
@[simp] theorem State.modGates_inputs (f : Gates → Gates) : (s.modGates f).inputs = s.inputs := rfl
@[simp] theorem State.modGates_channels (f : Gates → Gates) : (s.modGates f).channels = s.channels := rfl
@[simp] theorem State.modGates_sump (f : Gates → Gates) : (s.modGates f).sump = s.sump := rfl
@[simp] theorem State.modGates_pumps (f : Gates → Gates) : (s.modGates f).pumps = s.pumps := rfl
@[simp] theorem State.modGates_stages (f : Gates → Gates) : (s.modGates f).stages = s.stages := rfl
@[simp] theorem State.modGates_rotation (f : Gates → Gates) : (s.modGates f).rotation = s.rotation := rfl
@[simp] theorem State.modGates_load (f : Gates → Gates) : (s.modGates f).load = s.load := rfl
@[simp] theorem State.modGates_lighting (f : Gates → Gates) : (s.modGates f).lighting = s.lighting := rfl
@[simp] theorem State.modGates_signals (f : Gates → Gates) : (s.modGates f).signals = s.signals := rfl
@[simp] theorem State.modGates_gates (f : Gates → Gates) : (s.modGates f).gates = f s.gates := rfl
@[simp] theorem State.modGates_penstock (f : Gates → Gates) : (s.modGates f).penstock = s.penstock := rfl
@[simp] theorem State.modGates_closure (f : Gates → Gates) : (s.modGates f).closure = s.closure := rfl
@[simp] theorem State.modGates_authority (f : Gates → Gates) : (s.modGates f).authority = s.authority := rfl
@[simp] theorem State.modGates_linkA (f : Gates → Gates) : (s.modGates f).linkA = s.linkA := rfl
@[simp] theorem State.modGates_linkB (f : Gates → Gates) : (s.modGates f).linkB = s.linkB := rfl
@[simp] theorem State.modGates_events (f : Gates → Gates) : (s.modGates f).events = s.events := rfl
@[simp] theorem State.modGates_profile (f : Gates → Gates) : (s.modGates f).profile = s.profile := rfl
@[simp] theorem State.modGates_choices (f : Gates → Gates) : (s.modGates f).choices = s.choices := rfl
@[simp] theorem State.modGates_pending (f : Gates → Gates) : (s.modGates f).pending = s.pending := rfl

/-! ## modStem -/

@[simp] theorem State.modStem_phase (f : Stem → Stem) : (s.modStem f).phase = s.phase := rfl
@[simp] theorem State.modStem_restartCause (f : Stem → Stem) :
    (s.modStem f).restartCause = s.restartCause := rfl
@[simp] theorem State.modStem_stationClock (f : Stem → Stem) :
    (s.modStem f).stationClock = s.stationClock := rfl
@[simp] theorem State.modStem_subSecond (f : Stem → Stem) : (s.modStem f).subSecond = s.subSecond := rfl
@[simp] theorem State.modStem_timebase (f : Stem → Stem) : (s.modStem f).timebase = s.timebase := rfl
@[simp] theorem State.modStem_inputs (f : Stem → Stem) : (s.modStem f).inputs = s.inputs := rfl
@[simp] theorem State.modStem_channels (f : Stem → Stem) : (s.modStem f).channels = s.channels := rfl
@[simp] theorem State.modStem_sump (f : Stem → Stem) : (s.modStem f).sump = s.sump := rfl
@[simp] theorem State.modStem_pumps (f : Stem → Stem) : (s.modStem f).pumps = s.pumps := rfl
@[simp] theorem State.modStem_stages (f : Stem → Stem) : (s.modStem f).stages = s.stages := rfl
@[simp] theorem State.modStem_rotation (f : Stem → Stem) : (s.modStem f).rotation = s.rotation := rfl
@[simp] theorem State.modStem_load (f : Stem → Stem) : (s.modStem f).load = s.load := rfl
@[simp] theorem State.modStem_lighting (f : Stem → Stem) : (s.modStem f).lighting = s.lighting := rfl
@[simp] theorem State.modStem_signals (f : Stem → Stem) : (s.modStem f).signals = s.signals := rfl
@[simp] theorem State.modStem_gates (f : Stem → Stem) :
    (s.modStem f).gates = { s.gates with stem := f s.gates.stem } := rfl
@[simp] theorem State.modStem_penstock (f : Stem → Stem) : (s.modStem f).penstock = s.penstock := rfl
@[simp] theorem State.modStem_closure (f : Stem → Stem) : (s.modStem f).closure = s.closure := rfl
@[simp] theorem State.modStem_authority (f : Stem → Stem) : (s.modStem f).authority = s.authority := rfl
@[simp] theorem State.modStem_linkA (f : Stem → Stem) : (s.modStem f).linkA = s.linkA := rfl
@[simp] theorem State.modStem_linkB (f : Stem → Stem) : (s.modStem f).linkB = s.linkB := rfl
@[simp] theorem State.modStem_events (f : Stem → Stem) : (s.modStem f).events = s.events := rfl
@[simp] theorem State.modStem_profile (f : Stem → Stem) : (s.modStem f).profile = s.profile := rfl
@[simp] theorem State.modStem_choices (f : Stem → Stem) : (s.modStem f).choices = s.choices := rfl
@[simp] theorem State.modStem_pending (f : Stem → Stem) : (s.modStem f).pending = s.pending := rfl

/-! ## modPenstock -/

@[simp] theorem State.modPenstock_phase (f : PenstockControl → PenstockControl) :
    (s.modPenstock f).phase = s.phase := rfl
@[simp] theorem State.modPenstock_restartCause (f : PenstockControl → PenstockControl) :
    (s.modPenstock f).restartCause = s.restartCause := rfl
@[simp] theorem State.modPenstock_stationClock (f : PenstockControl → PenstockControl) :
    (s.modPenstock f).stationClock = s.stationClock := rfl
@[simp] theorem State.modPenstock_subSecond (f : PenstockControl → PenstockControl) :
    (s.modPenstock f).subSecond = s.subSecond := rfl
@[simp] theorem State.modPenstock_timebase (f : PenstockControl → PenstockControl) :
    (s.modPenstock f).timebase = s.timebase := rfl
@[simp] theorem State.modPenstock_inputs (f : PenstockControl → PenstockControl) :
    (s.modPenstock f).inputs = s.inputs := rfl
@[simp] theorem State.modPenstock_channels (f : PenstockControl → PenstockControl) :
    (s.modPenstock f).channels = s.channels := rfl
@[simp] theorem State.modPenstock_sump (f : PenstockControl → PenstockControl) :
    (s.modPenstock f).sump = s.sump := rfl
@[simp] theorem State.modPenstock_pumps (f : PenstockControl → PenstockControl) :
    (s.modPenstock f).pumps = s.pumps := rfl
@[simp] theorem State.modPenstock_stages (f : PenstockControl → PenstockControl) :
    (s.modPenstock f).stages = s.stages := rfl
@[simp] theorem State.modPenstock_rotation (f : PenstockControl → PenstockControl) :
    (s.modPenstock f).rotation = s.rotation := rfl
@[simp] theorem State.modPenstock_load (f : PenstockControl → PenstockControl) :
    (s.modPenstock f).load = s.load := rfl
@[simp] theorem State.modPenstock_lighting (f : PenstockControl → PenstockControl) :
    (s.modPenstock f).lighting = s.lighting := rfl
@[simp] theorem State.modPenstock_signals (f : PenstockControl → PenstockControl) :
    (s.modPenstock f).signals = s.signals := rfl
@[simp] theorem State.modPenstock_gates (f : PenstockControl → PenstockControl) :
    (s.modPenstock f).gates = s.gates := rfl
@[simp] theorem State.modPenstock_penstock (f : PenstockControl → PenstockControl) :
    (s.modPenstock f).penstock = f s.penstock := rfl
@[simp] theorem State.modPenstock_closure (f : PenstockControl → PenstockControl) :
    (s.modPenstock f).closure = s.closure := rfl
@[simp] theorem State.modPenstock_authority (f : PenstockControl → PenstockControl) :
    (s.modPenstock f).authority = s.authority := rfl
@[simp] theorem State.modPenstock_linkA (f : PenstockControl → PenstockControl) :
    (s.modPenstock f).linkA = s.linkA := rfl
@[simp] theorem State.modPenstock_linkB (f : PenstockControl → PenstockControl) :
    (s.modPenstock f).linkB = s.linkB := rfl
@[simp] theorem State.modPenstock_events (f : PenstockControl → PenstockControl) :
    (s.modPenstock f).events = s.events := rfl
@[simp] theorem State.modPenstock_profile (f : PenstockControl → PenstockControl) :
    (s.modPenstock f).profile = s.profile := rfl
@[simp] theorem State.modPenstock_choices (f : PenstockControl → PenstockControl) :
    (s.modPenstock f).choices = s.choices := rfl
@[simp] theorem State.modPenstock_pending (f : PenstockControl → PenstockControl) :
    (s.modPenstock f).pending = s.pending := rfl

/-! ## modClosure -/

@[simp] theorem State.modClosure_phase (f : Closure → Closure) : (s.modClosure f).phase = s.phase := rfl
@[simp] theorem State.modClosure_restartCause (f : Closure → Closure) :
    (s.modClosure f).restartCause = s.restartCause := rfl
@[simp] theorem State.modClosure_stationClock (f : Closure → Closure) :
    (s.modClosure f).stationClock = s.stationClock := rfl
@[simp] theorem State.modClosure_subSecond (f : Closure → Closure) :
    (s.modClosure f).subSecond = s.subSecond := rfl
@[simp] theorem State.modClosure_timebase (f : Closure → Closure) :
    (s.modClosure f).timebase = s.timebase := rfl
@[simp] theorem State.modClosure_inputs (f : Closure → Closure) : (s.modClosure f).inputs = s.inputs := rfl
@[simp] theorem State.modClosure_channels (f : Closure → Closure) :
    (s.modClosure f).channels = s.channels := rfl
@[simp] theorem State.modClosure_sump (f : Closure → Closure) : (s.modClosure f).sump = s.sump := rfl
@[simp] theorem State.modClosure_pumps (f : Closure → Closure) : (s.modClosure f).pumps = s.pumps := rfl
@[simp] theorem State.modClosure_stages (f : Closure → Closure) : (s.modClosure f).stages = s.stages := rfl
@[simp] theorem State.modClosure_rotation (f : Closure → Closure) :
    (s.modClosure f).rotation = s.rotation := rfl
@[simp] theorem State.modClosure_load (f : Closure → Closure) : (s.modClosure f).load = s.load := rfl
@[simp] theorem State.modClosure_lighting (f : Closure → Closure) :
    (s.modClosure f).lighting = s.lighting := rfl
@[simp] theorem State.modClosure_signals (f : Closure → Closure) : (s.modClosure f).signals = s.signals := rfl
@[simp] theorem State.modClosure_gates (f : Closure → Closure) : (s.modClosure f).gates = s.gates := rfl
@[simp] theorem State.modClosure_penstock (f : Closure → Closure) :
    (s.modClosure f).penstock = s.penstock := rfl
@[simp] theorem State.modClosure_closure (f : Closure → Closure) :
    (s.modClosure f).closure = f s.closure := rfl
@[simp] theorem State.modClosure_authority (f : Closure → Closure) :
    (s.modClosure f).authority = s.authority := rfl
@[simp] theorem State.modClosure_linkA (f : Closure → Closure) : (s.modClosure f).linkA = s.linkA := rfl
@[simp] theorem State.modClosure_linkB (f : Closure → Closure) : (s.modClosure f).linkB = s.linkB := rfl
@[simp] theorem State.modClosure_events (f : Closure → Closure) : (s.modClosure f).events = s.events := rfl
@[simp] theorem State.modClosure_profile (f : Closure → Closure) : (s.modClosure f).profile = s.profile := rfl
@[simp] theorem State.modClosure_choices (f : Closure → Closure) : (s.modClosure f).choices = s.choices := rfl
@[simp] theorem State.modClosure_pending (f : Closure → Closure) : (s.modClosure f).pending = s.pending := rfl

/-! ## modAuthority -/

@[simp] theorem State.modAuthority_phase (f : AuthorityTable → AuthorityTable) :
    (s.modAuthority f).phase = s.phase := rfl
@[simp] theorem State.modAuthority_restartCause (f : AuthorityTable → AuthorityTable) :
    (s.modAuthority f).restartCause = s.restartCause := rfl
@[simp] theorem State.modAuthority_stationClock (f : AuthorityTable → AuthorityTable) :
    (s.modAuthority f).stationClock = s.stationClock := rfl
@[simp] theorem State.modAuthority_subSecond (f : AuthorityTable → AuthorityTable) :
    (s.modAuthority f).subSecond = s.subSecond := rfl
@[simp] theorem State.modAuthority_timebase (f : AuthorityTable → AuthorityTable) :
    (s.modAuthority f).timebase = s.timebase := rfl
@[simp] theorem State.modAuthority_inputs (f : AuthorityTable → AuthorityTable) :
    (s.modAuthority f).inputs = s.inputs := rfl
@[simp] theorem State.modAuthority_channels (f : AuthorityTable → AuthorityTable) :
    (s.modAuthority f).channels = s.channels := rfl
@[simp] theorem State.modAuthority_sump (f : AuthorityTable → AuthorityTable) :
    (s.modAuthority f).sump = s.sump := rfl
@[simp] theorem State.modAuthority_pumps (f : AuthorityTable → AuthorityTable) :
    (s.modAuthority f).pumps = s.pumps := rfl
@[simp] theorem State.modAuthority_stages (f : AuthorityTable → AuthorityTable) :
    (s.modAuthority f).stages = s.stages := rfl
@[simp] theorem State.modAuthority_rotation (f : AuthorityTable → AuthorityTable) :
    (s.modAuthority f).rotation = s.rotation := rfl
@[simp] theorem State.modAuthority_load (f : AuthorityTable → AuthorityTable) :
    (s.modAuthority f).load = s.load := rfl
@[simp] theorem State.modAuthority_lighting (f : AuthorityTable → AuthorityTable) :
    (s.modAuthority f).lighting = s.lighting := rfl
@[simp] theorem State.modAuthority_signals (f : AuthorityTable → AuthorityTable) :
    (s.modAuthority f).signals = s.signals := rfl
@[simp] theorem State.modAuthority_gates (f : AuthorityTable → AuthorityTable) :
    (s.modAuthority f).gates = s.gates := rfl
@[simp] theorem State.modAuthority_penstock (f : AuthorityTable → AuthorityTable) :
    (s.modAuthority f).penstock = s.penstock := rfl
@[simp] theorem State.modAuthority_closure (f : AuthorityTable → AuthorityTable) :
    (s.modAuthority f).closure = s.closure := rfl
@[simp] theorem State.modAuthority_authority (f : AuthorityTable → AuthorityTable) :
    (s.modAuthority f).authority = f s.authority := rfl
@[simp] theorem State.modAuthority_linkA (f : AuthorityTable → AuthorityTable) :
    (s.modAuthority f).linkA = s.linkA := rfl
@[simp] theorem State.modAuthority_linkB (f : AuthorityTable → AuthorityTable) :
    (s.modAuthority f).linkB = s.linkB := rfl
@[simp] theorem State.modAuthority_events (f : AuthorityTable → AuthorityTable) :
    (s.modAuthority f).events = s.events := rfl
@[simp] theorem State.modAuthority_profile (f : AuthorityTable → AuthorityTable) :
    (s.modAuthority f).profile = s.profile := rfl
@[simp] theorem State.modAuthority_choices (f : AuthorityTable → AuthorityTable) :
    (s.modAuthority f).choices = s.choices := rfl
@[simp] theorem State.modAuthority_pending (f : AuthorityTable → AuthorityTable) :
    (s.modAuthority f).pending = s.pending := rfl

/-! ## modDemands -/

@[simp] theorem State.modDemands_phase (f : Demands → Demands) : (s.modDemands f).phase = s.phase := rfl
@[simp] theorem State.modDemands_restartCause (f : Demands → Demands) :
    (s.modDemands f).restartCause = s.restartCause := rfl
@[simp] theorem State.modDemands_stationClock (f : Demands → Demands) :
    (s.modDemands f).stationClock = s.stationClock := rfl
@[simp] theorem State.modDemands_subSecond (f : Demands → Demands) :
    (s.modDemands f).subSecond = s.subSecond := rfl
@[simp] theorem State.modDemands_timebase (f : Demands → Demands) :
    (s.modDemands f).timebase = s.timebase := rfl
@[simp] theorem State.modDemands_inputs (f : Demands → Demands) : (s.modDemands f).inputs = s.inputs := rfl
@[simp] theorem State.modDemands_channels (f : Demands → Demands) :
    (s.modDemands f).channels = s.channels := rfl
@[simp] theorem State.modDemands_sump (f : Demands → Demands) : (s.modDemands f).sump = s.sump := rfl
@[simp] theorem State.modDemands_pumps (f : Demands → Demands) : (s.modDemands f).pumps = s.pumps := rfl
@[simp] theorem State.modDemands_stages (f : Demands → Demands) : (s.modDemands f).stages = s.stages := rfl
@[simp] theorem State.modDemands_rotation (f : Demands → Demands) :
    (s.modDemands f).rotation = s.rotation := rfl
@[simp] theorem State.modDemands_load (f : Demands → Demands) : (s.modDemands f).load = s.load := rfl
@[simp] theorem State.modDemands_lighting (f : Demands → Demands) :
    (s.modDemands f).lighting = s.lighting := rfl
@[simp] theorem State.modDemands_signals (f : Demands → Demands) : (s.modDemands f).signals = s.signals := rfl
@[simp] theorem State.modDemands_gates (f : Demands → Demands) : (s.modDemands f).gates = s.gates := rfl
@[simp] theorem State.modDemands_penstock (f : Demands → Demands) :
    (s.modDemands f).penstock = s.penstock := rfl
@[simp] theorem State.modDemands_closure (f : Demands → Demands) : (s.modDemands f).closure = s.closure := rfl
@[simp] theorem State.modDemands_authority (f : Demands → Demands) :
    (s.modDemands f).authority = { s.authority with demands := f s.authority.demands } := rfl
@[simp] theorem State.modDemands_linkA (f : Demands → Demands) : (s.modDemands f).linkA = s.linkA := rfl
@[simp] theorem State.modDemands_linkB (f : Demands → Demands) : (s.modDemands f).linkB = s.linkB := rfl
@[simp] theorem State.modDemands_events (f : Demands → Demands) : (s.modDemands f).events = s.events := rfl
@[simp] theorem State.modDemands_profile (f : Demands → Demands) : (s.modDemands f).profile = s.profile := rfl
@[simp] theorem State.modDemands_choices (f : Demands → Demands) : (s.modDemands f).choices = s.choices := rfl
@[simp] theorem State.modDemands_pending (f : Demands → Demands) : (s.modDemands f).pending = s.pending := rfl

/-! ## modProfile -/

@[simp] theorem State.modProfile_phase (f : ProfileStore → ProfileStore) :
    (s.modProfile f).phase = s.phase := rfl
@[simp] theorem State.modProfile_restartCause (f : ProfileStore → ProfileStore) :
    (s.modProfile f).restartCause = s.restartCause := rfl
@[simp] theorem State.modProfile_stationClock (f : ProfileStore → ProfileStore) :
    (s.modProfile f).stationClock = s.stationClock := rfl
@[simp] theorem State.modProfile_subSecond (f : ProfileStore → ProfileStore) :
    (s.modProfile f).subSecond = s.subSecond := rfl
@[simp] theorem State.modProfile_timebase (f : ProfileStore → ProfileStore) :
    (s.modProfile f).timebase = s.timebase := rfl
@[simp] theorem State.modProfile_inputs (f : ProfileStore → ProfileStore) :
    (s.modProfile f).inputs = s.inputs := rfl
@[simp] theorem State.modProfile_channels (f : ProfileStore → ProfileStore) :
    (s.modProfile f).channels = s.channels := rfl
@[simp] theorem State.modProfile_sump (f : ProfileStore → ProfileStore) :
    (s.modProfile f).sump = s.sump := rfl
@[simp] theorem State.modProfile_pumps (f : ProfileStore → ProfileStore) :
    (s.modProfile f).pumps = s.pumps := rfl
@[simp] theorem State.modProfile_stages (f : ProfileStore → ProfileStore) :
    (s.modProfile f).stages = s.stages := rfl
@[simp] theorem State.modProfile_rotation (f : ProfileStore → ProfileStore) :
    (s.modProfile f).rotation = s.rotation := rfl
@[simp] theorem State.modProfile_load (f : ProfileStore → ProfileStore) :
    (s.modProfile f).load = s.load := rfl
@[simp] theorem State.modProfile_lighting (f : ProfileStore → ProfileStore) :
    (s.modProfile f).lighting = s.lighting := rfl
@[simp] theorem State.modProfile_signals (f : ProfileStore → ProfileStore) :
    (s.modProfile f).signals = s.signals := rfl
@[simp] theorem State.modProfile_gates (f : ProfileStore → ProfileStore) :
    (s.modProfile f).gates = s.gates := rfl
@[simp] theorem State.modProfile_penstock (f : ProfileStore → ProfileStore) :
    (s.modProfile f).penstock = s.penstock := rfl
@[simp] theorem State.modProfile_closure (f : ProfileStore → ProfileStore) :
    (s.modProfile f).closure = s.closure := rfl
@[simp] theorem State.modProfile_authority (f : ProfileStore → ProfileStore) :
    (s.modProfile f).authority = s.authority := rfl
@[simp] theorem State.modProfile_linkA (f : ProfileStore → ProfileStore) :
    (s.modProfile f).linkA = s.linkA := rfl
@[simp] theorem State.modProfile_linkB (f : ProfileStore → ProfileStore) :
    (s.modProfile f).linkB = s.linkB := rfl
@[simp] theorem State.modProfile_events (f : ProfileStore → ProfileStore) :
    (s.modProfile f).events = s.events := rfl
@[simp] theorem State.modProfile_profile (f : ProfileStore → ProfileStore) :
    (s.modProfile f).profile = f s.profile := rfl
@[simp] theorem State.modProfile_choices (f : ProfileStore → ProfileStore) :
    (s.modProfile f).choices = s.choices := rfl
@[simp] theorem State.modProfile_pending (f : ProfileStore → ProfileStore) :
    (s.modProfile f).pending = s.pending := rfl

/-! ## setRotation -/

@[simp] theorem State.setRotation_phase (r : List PumpId) : (s.setRotation r).phase = s.phase := rfl
@[simp] theorem State.setRotation_restartCause (r : List PumpId) :
    (s.setRotation r).restartCause = s.restartCause := rfl
@[simp] theorem State.setRotation_stationClock (r : List PumpId) :
    (s.setRotation r).stationClock = s.stationClock := rfl
@[simp] theorem State.setRotation_subSecond (r : List PumpId) :
    (s.setRotation r).subSecond = s.subSecond := rfl
@[simp] theorem State.setRotation_timebase (r : List PumpId) : (s.setRotation r).timebase = s.timebase := rfl
@[simp] theorem State.setRotation_inputs (r : List PumpId) : (s.setRotation r).inputs = s.inputs := rfl
@[simp] theorem State.setRotation_channels (r : List PumpId) : (s.setRotation r).channels = s.channels := rfl
@[simp] theorem State.setRotation_sump (r : List PumpId) : (s.setRotation r).sump = s.sump := rfl
@[simp] theorem State.setRotation_pumps (r : List PumpId) : (s.setRotation r).pumps = s.pumps := rfl
@[simp] theorem State.setRotation_stages (r : List PumpId) : (s.setRotation r).stages = s.stages := rfl
@[simp] theorem State.setRotation_rotation (r : List PumpId) : (s.setRotation r).rotation = r := rfl
@[simp] theorem State.setRotation_load (r : List PumpId) : (s.setRotation r).load = s.load := rfl
@[simp] theorem State.setRotation_lighting (r : List PumpId) : (s.setRotation r).lighting = s.lighting := rfl
@[simp] theorem State.setRotation_signals (r : List PumpId) : (s.setRotation r).signals = s.signals := rfl
@[simp] theorem State.setRotation_gates (r : List PumpId) : (s.setRotation r).gates = s.gates := rfl
@[simp] theorem State.setRotation_penstock (r : List PumpId) : (s.setRotation r).penstock = s.penstock := rfl
@[simp] theorem State.setRotation_closure (r : List PumpId) : (s.setRotation r).closure = s.closure := rfl
@[simp] theorem State.setRotation_authority (r : List PumpId) :
    (s.setRotation r).authority = s.authority := rfl
@[simp] theorem State.setRotation_linkA (r : List PumpId) : (s.setRotation r).linkA = s.linkA := rfl
@[simp] theorem State.setRotation_linkB (r : List PumpId) : (s.setRotation r).linkB = s.linkB := rfl
@[simp] theorem State.setRotation_events (r : List PumpId) : (s.setRotation r).events = s.events := rfl
@[simp] theorem State.setRotation_profile (r : List PumpId) : (s.setRotation r).profile = s.profile := rfl
@[simp] theorem State.setRotation_choices (r : List PumpId) : (s.setRotation r).choices = s.choices := rfl
@[simp] theorem State.setRotation_pending (r : List PumpId) : (s.setRotation r).pending = s.pending := rfl

/-! ## modPump -/

@[simp] theorem State.modPump_phase (p : PumpId) (f : Pump → Pump) : (s.modPump p f).phase = s.phase := rfl
@[simp] theorem State.modPump_restartCause (p : PumpId) (f : Pump → Pump) :
    (s.modPump p f).restartCause = s.restartCause := rfl
@[simp] theorem State.modPump_stationClock (p : PumpId) (f : Pump → Pump) :
    (s.modPump p f).stationClock = s.stationClock := rfl
@[simp] theorem State.modPump_subSecond (p : PumpId) (f : Pump → Pump) :
    (s.modPump p f).subSecond = s.subSecond := rfl
@[simp] theorem State.modPump_timebase (p : PumpId) (f : Pump → Pump) :
    (s.modPump p f).timebase = s.timebase := rfl
@[simp] theorem State.modPump_inputs (p : PumpId) (f : Pump → Pump) : (s.modPump p f).inputs = s.inputs := rfl
@[simp] theorem State.modPump_channels (p : PumpId) (f : Pump → Pump) :
    (s.modPump p f).channels = s.channels := rfl
@[simp] theorem State.modPump_sump (p : PumpId) (f : Pump → Pump) : (s.modPump p f).sump = s.sump := rfl
@[simp] theorem State.modPump_pumps (p : PumpId) (f : Pump → Pump) :
    (s.modPump p f).pumps = s.pumps.set p (f s.pumps[p]) := rfl
@[simp] theorem State.modPump_stages (p : PumpId) (f : Pump → Pump) : (s.modPump p f).stages = s.stages := rfl
@[simp] theorem State.modPump_rotation (p : PumpId) (f : Pump → Pump) :
    (s.modPump p f).rotation = s.rotation := rfl
@[simp] theorem State.modPump_load (p : PumpId) (f : Pump → Pump) : (s.modPump p f).load = s.load := rfl
@[simp] theorem State.modPump_lighting (p : PumpId) (f : Pump → Pump) :
    (s.modPump p f).lighting = s.lighting := rfl
@[simp] theorem State.modPump_signals (p : PumpId) (f : Pump → Pump) :
    (s.modPump p f).signals = s.signals := rfl
@[simp] theorem State.modPump_gates (p : PumpId) (f : Pump → Pump) : (s.modPump p f).gates = s.gates := rfl
@[simp] theorem State.modPump_penstock (p : PumpId) (f : Pump → Pump) :
    (s.modPump p f).penstock = s.penstock := rfl
@[simp] theorem State.modPump_closure (p : PumpId) (f : Pump → Pump) :
    (s.modPump p f).closure = s.closure := rfl
@[simp] theorem State.modPump_authority (p : PumpId) (f : Pump → Pump) :
    (s.modPump p f).authority = s.authority := rfl
@[simp] theorem State.modPump_linkA (p : PumpId) (f : Pump → Pump) : (s.modPump p f).linkA = s.linkA := rfl
@[simp] theorem State.modPump_linkB (p : PumpId) (f : Pump → Pump) : (s.modPump p f).linkB = s.linkB := rfl
@[simp] theorem State.modPump_events (p : PumpId) (f : Pump → Pump) : (s.modPump p f).events = s.events := rfl
@[simp] theorem State.modPump_profile (p : PumpId) (f : Pump → Pump) :
    (s.modPump p f).profile = s.profile := rfl
@[simp] theorem State.modPump_choices (p : PumpId) (f : Pump → Pump) :
    (s.modPump p f).choices = s.choices := rfl
@[simp] theorem State.modPump_pending (p : PumpId) (f : Pump → Pump) :
    (s.modPump p f).pending = s.pending := rfl

/-! ## modStage -/

@[simp] theorem State.modStage_phase (k : StageId) (f : StageCall → StageCall) :
    (s.modStage k f).phase = s.phase := rfl
@[simp] theorem State.modStage_restartCause (k : StageId) (f : StageCall → StageCall) :
    (s.modStage k f).restartCause = s.restartCause := rfl
@[simp] theorem State.modStage_stationClock (k : StageId) (f : StageCall → StageCall) :
    (s.modStage k f).stationClock = s.stationClock := rfl
@[simp] theorem State.modStage_subSecond (k : StageId) (f : StageCall → StageCall) :
    (s.modStage k f).subSecond = s.subSecond := rfl
@[simp] theorem State.modStage_timebase (k : StageId) (f : StageCall → StageCall) :
    (s.modStage k f).timebase = s.timebase := rfl
@[simp] theorem State.modStage_inputs (k : StageId) (f : StageCall → StageCall) :
    (s.modStage k f).inputs = s.inputs := rfl
@[simp] theorem State.modStage_channels (k : StageId) (f : StageCall → StageCall) :
    (s.modStage k f).channels = s.channels := rfl
@[simp] theorem State.modStage_sump (k : StageId) (f : StageCall → StageCall) :
    (s.modStage k f).sump = s.sump := rfl
@[simp] theorem State.modStage_pumps (k : StageId) (f : StageCall → StageCall) :
    (s.modStage k f).pumps = s.pumps := rfl
@[simp] theorem State.modStage_stages (k : StageId) (f : StageCall → StageCall) :
    (s.modStage k f).stages = s.stages.set k (f s.stages[k]) := rfl
@[simp] theorem State.modStage_rotation (k : StageId) (f : StageCall → StageCall) :
    (s.modStage k f).rotation = s.rotation := rfl
@[simp] theorem State.modStage_load (k : StageId) (f : StageCall → StageCall) :
    (s.modStage k f).load = s.load := rfl
@[simp] theorem State.modStage_lighting (k : StageId) (f : StageCall → StageCall) :
    (s.modStage k f).lighting = s.lighting := rfl
@[simp] theorem State.modStage_signals (k : StageId) (f : StageCall → StageCall) :
    (s.modStage k f).signals = s.signals := rfl
@[simp] theorem State.modStage_gates (k : StageId) (f : StageCall → StageCall) :
    (s.modStage k f).gates = s.gates := rfl
@[simp] theorem State.modStage_penstock (k : StageId) (f : StageCall → StageCall) :
    (s.modStage k f).penstock = s.penstock := rfl
@[simp] theorem State.modStage_closure (k : StageId) (f : StageCall → StageCall) :
    (s.modStage k f).closure = s.closure := rfl
@[simp] theorem State.modStage_authority (k : StageId) (f : StageCall → StageCall) :
    (s.modStage k f).authority = s.authority := rfl
@[simp] theorem State.modStage_linkA (k : StageId) (f : StageCall → StageCall) :
    (s.modStage k f).linkA = s.linkA := rfl
@[simp] theorem State.modStage_linkB (k : StageId) (f : StageCall → StageCall) :
    (s.modStage k f).linkB = s.linkB := rfl
@[simp] theorem State.modStage_events (k : StageId) (f : StageCall → StageCall) :
    (s.modStage k f).events = s.events := rfl
@[simp] theorem State.modStage_profile (k : StageId) (f : StageCall → StageCall) :
    (s.modStage k f).profile = s.profile := rfl
@[simp] theorem State.modStage_choices (k : StageId) (f : StageCall → StageCall) :
    (s.modStage k f).choices = s.choices := rfl
@[simp] theorem State.modStage_pending (k : StageId) (f : StageCall → StageCall) :
    (s.modStage k f).pending = s.pending := rfl

/-! ## modGroup -/

@[simp] theorem State.modGroup_phase (g : GroupId) (f : LampGroup → LampGroup) :
    (s.modGroup g f).phase = s.phase := rfl
@[simp] theorem State.modGroup_restartCause (g : GroupId) (f : LampGroup → LampGroup) :
    (s.modGroup g f).restartCause = s.restartCause := rfl
@[simp] theorem State.modGroup_stationClock (g : GroupId) (f : LampGroup → LampGroup) :
    (s.modGroup g f).stationClock = s.stationClock := rfl
@[simp] theorem State.modGroup_subSecond (g : GroupId) (f : LampGroup → LampGroup) :
    (s.modGroup g f).subSecond = s.subSecond := rfl
@[simp] theorem State.modGroup_timebase (g : GroupId) (f : LampGroup → LampGroup) :
    (s.modGroup g f).timebase = s.timebase := rfl
@[simp] theorem State.modGroup_inputs (g : GroupId) (f : LampGroup → LampGroup) :
    (s.modGroup g f).inputs = s.inputs := rfl
@[simp] theorem State.modGroup_channels (g : GroupId) (f : LampGroup → LampGroup) :
    (s.modGroup g f).channels = s.channels := rfl
@[simp] theorem State.modGroup_sump (g : GroupId) (f : LampGroup → LampGroup) :
    (s.modGroup g f).sump = s.sump := rfl
@[simp] theorem State.modGroup_pumps (g : GroupId) (f : LampGroup → LampGroup) :
    (s.modGroup g f).pumps = s.pumps := rfl
@[simp] theorem State.modGroup_stages (g : GroupId) (f : LampGroup → LampGroup) :
    (s.modGroup g f).stages = s.stages := rfl
@[simp] theorem State.modGroup_rotation (g : GroupId) (f : LampGroup → LampGroup) :
    (s.modGroup g f).rotation = s.rotation := rfl
@[simp] theorem State.modGroup_load (g : GroupId) (f : LampGroup → LampGroup) :
    (s.modGroup g f).load = s.load := rfl
@[simp] theorem State.modGroup_lighting (g : GroupId) (f : LampGroup → LampGroup) :
    (s.modGroup g f).lighting = { s.lighting with groups := s.lighting.groups.set g (f s.lighting.groups[g]) } := rfl
@[simp] theorem State.modGroup_signals (g : GroupId) (f : LampGroup → LampGroup) :
    (s.modGroup g f).signals = s.signals := rfl
@[simp] theorem State.modGroup_gates (g : GroupId) (f : LampGroup → LampGroup) :
    (s.modGroup g f).gates = s.gates := rfl
@[simp] theorem State.modGroup_penstock (g : GroupId) (f : LampGroup → LampGroup) :
    (s.modGroup g f).penstock = s.penstock := rfl
@[simp] theorem State.modGroup_closure (g : GroupId) (f : LampGroup → LampGroup) :
    (s.modGroup g f).closure = s.closure := rfl
@[simp] theorem State.modGroup_authority (g : GroupId) (f : LampGroup → LampGroup) :
    (s.modGroup g f).authority = s.authority := rfl
@[simp] theorem State.modGroup_linkA (g : GroupId) (f : LampGroup → LampGroup) :
    (s.modGroup g f).linkA = s.linkA := rfl
@[simp] theorem State.modGroup_linkB (g : GroupId) (f : LampGroup → LampGroup) :
    (s.modGroup g f).linkB = s.linkB := rfl
@[simp] theorem State.modGroup_events (g : GroupId) (f : LampGroup → LampGroup) :
    (s.modGroup g f).events = s.events := rfl
@[simp] theorem State.modGroup_profile (g : GroupId) (f : LampGroup → LampGroup) :
    (s.modGroup g f).profile = s.profile := rfl
@[simp] theorem State.modGroup_choices (g : GroupId) (f : LampGroup → LampGroup) :
    (s.modGroup g f).choices = s.choices := rfl
@[simp] theorem State.modGroup_pending (g : GroupId) (f : LampGroup → LampGroup) :
    (s.modGroup g f).pending = s.pending := rfl

/-! ## modSignal -/

@[simp] theorem State.modSignal_phase (n : SignalId) (f : SignalChannel → SignalChannel) :
    (s.modSignal n f).phase = s.phase := rfl
@[simp] theorem State.modSignal_restartCause (n : SignalId) (f : SignalChannel → SignalChannel) :
    (s.modSignal n f).restartCause = s.restartCause := rfl
@[simp] theorem State.modSignal_stationClock (n : SignalId) (f : SignalChannel → SignalChannel) :
    (s.modSignal n f).stationClock = s.stationClock := rfl
@[simp] theorem State.modSignal_subSecond (n : SignalId) (f : SignalChannel → SignalChannel) :
    (s.modSignal n f).subSecond = s.subSecond := rfl
@[simp] theorem State.modSignal_timebase (n : SignalId) (f : SignalChannel → SignalChannel) :
    (s.modSignal n f).timebase = s.timebase := rfl
@[simp] theorem State.modSignal_inputs (n : SignalId) (f : SignalChannel → SignalChannel) :
    (s.modSignal n f).inputs = s.inputs := rfl
@[simp] theorem State.modSignal_channels (n : SignalId) (f : SignalChannel → SignalChannel) :
    (s.modSignal n f).channels = s.channels := rfl
@[simp] theorem State.modSignal_sump (n : SignalId) (f : SignalChannel → SignalChannel) :
    (s.modSignal n f).sump = s.sump := rfl
@[simp] theorem State.modSignal_pumps (n : SignalId) (f : SignalChannel → SignalChannel) :
    (s.modSignal n f).pumps = s.pumps := rfl
@[simp] theorem State.modSignal_stages (n : SignalId) (f : SignalChannel → SignalChannel) :
    (s.modSignal n f).stages = s.stages := rfl
@[simp] theorem State.modSignal_rotation (n : SignalId) (f : SignalChannel → SignalChannel) :
    (s.modSignal n f).rotation = s.rotation := rfl
@[simp] theorem State.modSignal_load (n : SignalId) (f : SignalChannel → SignalChannel) :
    (s.modSignal n f).load = s.load := rfl
@[simp] theorem State.modSignal_lighting (n : SignalId) (f : SignalChannel → SignalChannel) :
    (s.modSignal n f).lighting = s.lighting := rfl
@[simp] theorem State.modSignal_signals (n : SignalId) (f : SignalChannel → SignalChannel) :
    (s.modSignal n f).signals = { s.signals with channels := s.signals.channels.set n (f s.signals.channels[n]) } := rfl
@[simp] theorem State.modSignal_gates (n : SignalId) (f : SignalChannel → SignalChannel) :
    (s.modSignal n f).gates = s.gates := rfl
@[simp] theorem State.modSignal_penstock (n : SignalId) (f : SignalChannel → SignalChannel) :
    (s.modSignal n f).penstock = s.penstock := rfl
@[simp] theorem State.modSignal_closure (n : SignalId) (f : SignalChannel → SignalChannel) :
    (s.modSignal n f).closure = s.closure := rfl
@[simp] theorem State.modSignal_authority (n : SignalId) (f : SignalChannel → SignalChannel) :
    (s.modSignal n f).authority = s.authority := rfl
@[simp] theorem State.modSignal_linkA (n : SignalId) (f : SignalChannel → SignalChannel) :
    (s.modSignal n f).linkA = s.linkA := rfl
@[simp] theorem State.modSignal_linkB (n : SignalId) (f : SignalChannel → SignalChannel) :
    (s.modSignal n f).linkB = s.linkB := rfl
@[simp] theorem State.modSignal_events (n : SignalId) (f : SignalChannel → SignalChannel) :
    (s.modSignal n f).events = s.events := rfl
@[simp] theorem State.modSignal_profile (n : SignalId) (f : SignalChannel → SignalChannel) :
    (s.modSignal n f).profile = s.profile := rfl
@[simp] theorem State.modSignal_choices (n : SignalId) (f : SignalChannel → SignalChannel) :
    (s.modSignal n f).choices = s.choices := rfl
@[simp] theorem State.modSignal_pending (n : SignalId) (f : SignalChannel → SignalChannel) :
    (s.modSignal n f).pending = s.pending := rfl

/-! ## setChannel -/

@[simp] theorem State.setChannel_phase (c : ChannelId) (x : Channel) :
    (s.setChannel c x).phase = s.phase := rfl
@[simp] theorem State.setChannel_restartCause (c : ChannelId) (x : Channel) :
    (s.setChannel c x).restartCause = s.restartCause := rfl
@[simp] theorem State.setChannel_stationClock (c : ChannelId) (x : Channel) :
    (s.setChannel c x).stationClock = s.stationClock := rfl
@[simp] theorem State.setChannel_subSecond (c : ChannelId) (x : Channel) :
    (s.setChannel c x).subSecond = s.subSecond := rfl
@[simp] theorem State.setChannel_timebase (c : ChannelId) (x : Channel) :
    (s.setChannel c x).timebase = s.timebase := rfl
@[simp] theorem State.setChannel_inputs (c : ChannelId) (x : Channel) :
    (s.setChannel c x).inputs = s.inputs := rfl
@[simp] theorem State.setChannel_channels (c : ChannelId) (x : Channel) :
    (s.setChannel c x).channels = s.channels.put c x := rfl
@[simp] theorem State.setChannel_sump (c : ChannelId) (x : Channel) : (s.setChannel c x).sump = s.sump := rfl
@[simp] theorem State.setChannel_pumps (c : ChannelId) (x : Channel) :
    (s.setChannel c x).pumps = s.pumps := rfl
@[simp] theorem State.setChannel_stages (c : ChannelId) (x : Channel) :
    (s.setChannel c x).stages = s.stages := rfl
@[simp] theorem State.setChannel_rotation (c : ChannelId) (x : Channel) :
    (s.setChannel c x).rotation = s.rotation := rfl
@[simp] theorem State.setChannel_load (c : ChannelId) (x : Channel) : (s.setChannel c x).load = s.load := rfl
@[simp] theorem State.setChannel_lighting (c : ChannelId) (x : Channel) :
    (s.setChannel c x).lighting = s.lighting := rfl
@[simp] theorem State.setChannel_signals (c : ChannelId) (x : Channel) :
    (s.setChannel c x).signals = s.signals := rfl
@[simp] theorem State.setChannel_gates (c : ChannelId) (x : Channel) :
    (s.setChannel c x).gates = s.gates := rfl
@[simp] theorem State.setChannel_penstock (c : ChannelId) (x : Channel) :
    (s.setChannel c x).penstock = s.penstock := rfl
@[simp] theorem State.setChannel_closure (c : ChannelId) (x : Channel) :
    (s.setChannel c x).closure = s.closure := rfl
@[simp] theorem State.setChannel_authority (c : ChannelId) (x : Channel) :
    (s.setChannel c x).authority = s.authority := rfl
@[simp] theorem State.setChannel_linkA (c : ChannelId) (x : Channel) :
    (s.setChannel c x).linkA = s.linkA := rfl
@[simp] theorem State.setChannel_linkB (c : ChannelId) (x : Channel) :
    (s.setChannel c x).linkB = s.linkB := rfl
@[simp] theorem State.setChannel_events (c : ChannelId) (x : Channel) :
    (s.setChannel c x).events = s.events := rfl
@[simp] theorem State.setChannel_profile (c : ChannelId) (x : Channel) :
    (s.setChannel c x).profile = s.profile := rfl
@[simp] theorem State.setChannel_choices (c : ChannelId) (x : Channel) :
    (s.setChannel c x).choices = s.choices := rfl
@[simp] theorem State.setChannel_pending (c : ChannelId) (x : Channel) :
    (s.setChannel c x).pending = s.pending := rfl

/-! ## modChannel -/

@[simp] theorem State.modChannel_phase (c : ChannelId) (f : Channel → Channel) :
    (s.modChannel c f).phase = s.phase := rfl
@[simp] theorem State.modChannel_restartCause (c : ChannelId) (f : Channel → Channel) :
    (s.modChannel c f).restartCause = s.restartCause := rfl
@[simp] theorem State.modChannel_stationClock (c : ChannelId) (f : Channel → Channel) :
    (s.modChannel c f).stationClock = s.stationClock := rfl
@[simp] theorem State.modChannel_subSecond (c : ChannelId) (f : Channel → Channel) :
    (s.modChannel c f).subSecond = s.subSecond := rfl
@[simp] theorem State.modChannel_timebase (c : ChannelId) (f : Channel → Channel) :
    (s.modChannel c f).timebase = s.timebase := rfl
@[simp] theorem State.modChannel_inputs (c : ChannelId) (f : Channel → Channel) :
    (s.modChannel c f).inputs = s.inputs := rfl
@[simp] theorem State.modChannel_channels (c : ChannelId) (f : Channel → Channel) :
    (s.modChannel c f).channels = s.channels.put c (f (s.channel c)) := rfl
@[simp] theorem State.modChannel_sump (c : ChannelId) (f : Channel → Channel) :
    (s.modChannel c f).sump = s.sump := rfl
@[simp] theorem State.modChannel_pumps (c : ChannelId) (f : Channel → Channel) :
    (s.modChannel c f).pumps = s.pumps := rfl
@[simp] theorem State.modChannel_stages (c : ChannelId) (f : Channel → Channel) :
    (s.modChannel c f).stages = s.stages := rfl
@[simp] theorem State.modChannel_rotation (c : ChannelId) (f : Channel → Channel) :
    (s.modChannel c f).rotation = s.rotation := rfl
@[simp] theorem State.modChannel_load (c : ChannelId) (f : Channel → Channel) :
    (s.modChannel c f).load = s.load := rfl
@[simp] theorem State.modChannel_lighting (c : ChannelId) (f : Channel → Channel) :
    (s.modChannel c f).lighting = s.lighting := rfl
@[simp] theorem State.modChannel_signals (c : ChannelId) (f : Channel → Channel) :
    (s.modChannel c f).signals = s.signals := rfl
@[simp] theorem State.modChannel_gates (c : ChannelId) (f : Channel → Channel) :
    (s.modChannel c f).gates = s.gates := rfl
@[simp] theorem State.modChannel_penstock (c : ChannelId) (f : Channel → Channel) :
    (s.modChannel c f).penstock = s.penstock := rfl
@[simp] theorem State.modChannel_closure (c : ChannelId) (f : Channel → Channel) :
    (s.modChannel c f).closure = s.closure := rfl
@[simp] theorem State.modChannel_authority (c : ChannelId) (f : Channel → Channel) :
    (s.modChannel c f).authority = s.authority := rfl
@[simp] theorem State.modChannel_linkA (c : ChannelId) (f : Channel → Channel) :
    (s.modChannel c f).linkA = s.linkA := rfl
@[simp] theorem State.modChannel_linkB (c : ChannelId) (f : Channel → Channel) :
    (s.modChannel c f).linkB = s.linkB := rfl
@[simp] theorem State.modChannel_events (c : ChannelId) (f : Channel → Channel) :
    (s.modChannel c f).events = s.events := rfl
@[simp] theorem State.modChannel_profile (c : ChannelId) (f : Channel → Channel) :
    (s.modChannel c f).profile = s.profile := rfl
@[simp] theorem State.modChannel_choices (c : ChannelId) (f : Channel → Channel) :
    (s.modChannel c f).choices = s.choices := rfl
@[simp] theorem State.modChannel_pending (c : ChannelId) (f : Channel → Channel) :
    (s.modChannel c f).pending = s.pending := rfl

/-! ## modDrive -/

@[simp] theorem State.modDrive_phase (d : DriveId) (f : Drive → Drive) :
    (s.modDrive d f).phase = s.phase := rfl
@[simp] theorem State.modDrive_restartCause (d : DriveId) (f : Drive → Drive) :
    (s.modDrive d f).restartCause = s.restartCause := rfl
@[simp] theorem State.modDrive_stationClock (d : DriveId) (f : Drive → Drive) :
    (s.modDrive d f).stationClock = s.stationClock := rfl
@[simp] theorem State.modDrive_subSecond (d : DriveId) (f : Drive → Drive) :
    (s.modDrive d f).subSecond = s.subSecond := rfl
@[simp] theorem State.modDrive_timebase (d : DriveId) (f : Drive → Drive) :
    (s.modDrive d f).timebase = s.timebase := rfl
@[simp] theorem State.modDrive_inputs (d : DriveId) (f : Drive → Drive) :
    (s.modDrive d f).inputs = s.inputs := rfl
@[simp] theorem State.modDrive_channels (d : DriveId) (f : Drive → Drive) :
    (s.modDrive d f).channels = s.channels := rfl
@[simp] theorem State.modDrive_sump (d : DriveId) (f : Drive → Drive) : (s.modDrive d f).sump = s.sump := rfl
@[simp] theorem State.modDrive_pumps (d : DriveId) (f : Drive → Drive) :
    (s.modDrive d f).pumps = s.pumps := rfl
@[simp] theorem State.modDrive_stages (d : DriveId) (f : Drive → Drive) :
    (s.modDrive d f).stages = s.stages := rfl
@[simp] theorem State.modDrive_rotation (d : DriveId) (f : Drive → Drive) :
    (s.modDrive d f).rotation = s.rotation := rfl
@[simp] theorem State.modDrive_load (d : DriveId) (f : Drive → Drive) : (s.modDrive d f).load = s.load := rfl
@[simp] theorem State.modDrive_lighting (d : DriveId) (f : Drive → Drive) :
    (s.modDrive d f).lighting = s.lighting := rfl
@[simp] theorem State.modDrive_signals (d : DriveId) (f : Drive → Drive) :
    (s.modDrive d f).signals = s.signals := rfl
@[simp] theorem State.modDrive_gates (d : DriveId) (f : Drive → Drive) :
    (s.modDrive d f).gates = s.gates.put d (f (s.drive d)) := rfl
@[simp] theorem State.modDrive_penstock (d : DriveId) (f : Drive → Drive) :
    (s.modDrive d f).penstock = s.penstock := rfl
@[simp] theorem State.modDrive_closure (d : DriveId) (f : Drive → Drive) :
    (s.modDrive d f).closure = s.closure := rfl
@[simp] theorem State.modDrive_authority (d : DriveId) (f : Drive → Drive) :
    (s.modDrive d f).authority = s.authority := rfl
@[simp] theorem State.modDrive_linkA (d : DriveId) (f : Drive → Drive) :
    (s.modDrive d f).linkA = s.linkA := rfl
@[simp] theorem State.modDrive_linkB (d : DriveId) (f : Drive → Drive) :
    (s.modDrive d f).linkB = s.linkB := rfl
@[simp] theorem State.modDrive_events (d : DriveId) (f : Drive → Drive) :
    (s.modDrive d f).events = s.events := rfl
@[simp] theorem State.modDrive_profile (d : DriveId) (f : Drive → Drive) :
    (s.modDrive d f).profile = s.profile := rfl
@[simp] theorem State.modDrive_choices (d : DriveId) (f : Drive → Drive) :
    (s.modDrive d f).choices = s.choices := rfl
@[simp] theorem State.modDrive_pending (d : DriveId) (f : Drive → Drive) :
    (s.modDrive d f).pending = s.pending := rfl

/-! ## modLink, refuse -/

@[simp] theorem State.modLink_phase (k : Link) (f : LinkPort → LinkPort) :
    (s.modLink k f).phase = s.phase := by cases k <;> rfl
@[simp] theorem State.modLink_restartCause (k : Link) (f : LinkPort → LinkPort) :
    (s.modLink k f).restartCause = s.restartCause := by cases k <;> rfl
@[simp] theorem State.modLink_stationClock (k : Link) (f : LinkPort → LinkPort) :
    (s.modLink k f).stationClock = s.stationClock := by cases k <;> rfl
@[simp] theorem State.modLink_subSecond (k : Link) (f : LinkPort → LinkPort) :
    (s.modLink k f).subSecond = s.subSecond := by cases k <;> rfl
@[simp] theorem State.modLink_timebase (k : Link) (f : LinkPort → LinkPort) :
    (s.modLink k f).timebase = s.timebase := by cases k <;> rfl
@[simp] theorem State.modLink_inputs (k : Link) (f : LinkPort → LinkPort) :
    (s.modLink k f).inputs = s.inputs := by cases k <;> rfl
@[simp] theorem State.modLink_channels (k : Link) (f : LinkPort → LinkPort) :
    (s.modLink k f).channels = s.channels := by cases k <;> rfl
@[simp] theorem State.modLink_sump (k : Link) (f : LinkPort → LinkPort) :
    (s.modLink k f).sump = s.sump := by cases k <;> rfl
@[simp] theorem State.modLink_pumps (k : Link) (f : LinkPort → LinkPort) :
    (s.modLink k f).pumps = s.pumps := by cases k <;> rfl
@[simp] theorem State.modLink_stages (k : Link) (f : LinkPort → LinkPort) :
    (s.modLink k f).stages = s.stages := by cases k <;> rfl
@[simp] theorem State.modLink_rotation (k : Link) (f : LinkPort → LinkPort) :
    (s.modLink k f).rotation = s.rotation := by cases k <;> rfl
@[simp] theorem State.modLink_load (k : Link) (f : LinkPort → LinkPort) :
    (s.modLink k f).load = s.load := by cases k <;> rfl
@[simp] theorem State.modLink_lighting (k : Link) (f : LinkPort → LinkPort) :
    (s.modLink k f).lighting = s.lighting := by cases k <;> rfl
@[simp] theorem State.modLink_signals (k : Link) (f : LinkPort → LinkPort) :
    (s.modLink k f).signals = s.signals := by cases k <;> rfl
@[simp] theorem State.modLink_gates (k : Link) (f : LinkPort → LinkPort) :
    (s.modLink k f).gates = s.gates := by cases k <;> rfl
@[simp] theorem State.modLink_penstock (k : Link) (f : LinkPort → LinkPort) :
    (s.modLink k f).penstock = s.penstock := by cases k <;> rfl
@[simp] theorem State.modLink_closure (k : Link) (f : LinkPort → LinkPort) :
    (s.modLink k f).closure = s.closure := by cases k <;> rfl
@[simp] theorem State.modLink_authority (k : Link) (f : LinkPort → LinkPort) :
    (s.modLink k f).authority = s.authority := by cases k <;> rfl
@[simp] theorem State.modLink_events (k : Link) (f : LinkPort → LinkPort) :
    (s.modLink k f).events = s.events := by cases k <;> rfl
@[simp] theorem State.modLink_profile (k : Link) (f : LinkPort → LinkPort) :
    (s.modLink k f).profile = s.profile := by cases k <;> rfl
@[simp] theorem State.modLink_choices (k : Link) (f : LinkPort → LinkPort) :
    (s.modLink k f).choices = s.choices := by cases k <;> rfl
@[simp] theorem State.modLink_pending (k : Link) (f : LinkPort → LinkPort) :
    (s.modLink k f).pending = s.pending := by cases k <;> rfl
@[simp] theorem State.refuse_phase (k : Link) (a : Addr) (r : Reason) (v : Word) :
    (s.refuse k a r v).phase = s.phase := by cases k <;> rfl
@[simp] theorem State.refuse_restartCause (k : Link) (a : Addr) (r : Reason) (v : Word) :
    (s.refuse k a r v).restartCause = s.restartCause := by cases k <;> rfl
@[simp] theorem State.refuse_stationClock (k : Link) (a : Addr) (r : Reason) (v : Word) :
    (s.refuse k a r v).stationClock = s.stationClock := by cases k <;> rfl
@[simp] theorem State.refuse_subSecond (k : Link) (a : Addr) (r : Reason) (v : Word) :
    (s.refuse k a r v).subSecond = s.subSecond := by cases k <;> rfl
@[simp] theorem State.refuse_timebase (k : Link) (a : Addr) (r : Reason) (v : Word) :
    (s.refuse k a r v).timebase = s.timebase := by cases k <;> rfl
@[simp] theorem State.refuse_inputs (k : Link) (a : Addr) (r : Reason) (v : Word) :
    (s.refuse k a r v).inputs = s.inputs := by cases k <;> rfl
@[simp] theorem State.refuse_channels (k : Link) (a : Addr) (r : Reason) (v : Word) :
    (s.refuse k a r v).channels = s.channels := by cases k <;> rfl
@[simp] theorem State.refuse_sump (k : Link) (a : Addr) (r : Reason) (v : Word) :
    (s.refuse k a r v).sump = s.sump := by cases k <;> rfl
@[simp] theorem State.refuse_pumps (k : Link) (a : Addr) (r : Reason) (v : Word) :
    (s.refuse k a r v).pumps = s.pumps := by cases k <;> rfl
@[simp] theorem State.refuse_stages (k : Link) (a : Addr) (r : Reason) (v : Word) :
    (s.refuse k a r v).stages = s.stages := by cases k <;> rfl
@[simp] theorem State.refuse_rotation (k : Link) (a : Addr) (r : Reason) (v : Word) :
    (s.refuse k a r v).rotation = s.rotation := by cases k <;> rfl
@[simp] theorem State.refuse_load (k : Link) (a : Addr) (r : Reason) (v : Word) :
    (s.refuse k a r v).load = s.load := by cases k <;> rfl
@[simp] theorem State.refuse_lighting (k : Link) (a : Addr) (r : Reason) (v : Word) :
    (s.refuse k a r v).lighting = s.lighting := by cases k <;> rfl
@[simp] theorem State.refuse_signals (k : Link) (a : Addr) (r : Reason) (v : Word) :
    (s.refuse k a r v).signals = s.signals := by cases k <;> rfl
@[simp] theorem State.refuse_gates (k : Link) (a : Addr) (r : Reason) (v : Word) :
    (s.refuse k a r v).gates = s.gates := by cases k <;> rfl
@[simp] theorem State.refuse_penstock (k : Link) (a : Addr) (r : Reason) (v : Word) :
    (s.refuse k a r v).penstock = s.penstock := by cases k <;> rfl
@[simp] theorem State.refuse_closure (k : Link) (a : Addr) (r : Reason) (v : Word) :
    (s.refuse k a r v).closure = s.closure := by cases k <;> rfl
@[simp] theorem State.refuse_authority (k : Link) (a : Addr) (r : Reason) (v : Word) :
    (s.refuse k a r v).authority = s.authority := by cases k <;> rfl
@[simp] theorem State.refuse_events (k : Link) (a : Addr) (r : Reason) (v : Word) :
    (s.refuse k a r v).events = s.events := by cases k <;> rfl
@[simp] theorem State.refuse_profile (k : Link) (a : Addr) (r : Reason) (v : Word) :
    (s.refuse k a r v).profile = s.profile := by cases k <;> rfl
@[simp] theorem State.refuse_choices (k : Link) (a : Addr) (r : Reason) (v : Word) :
    (s.refuse k a r v).choices = s.choices := by cases k <;> rfl
@[simp] theorem State.refuse_pending (k : Link) (a : Addr) (r : Reason) (v : Word) :
    (s.refuse k a r v).pending = s.pending := by cases k <;> rfl

/-! ## append, removePassed -/

@[simp] theorem State.append_phase (k : EventKind) (a b : Nat) : (s.append k a b).phase = s.phase := rfl
@[simp] theorem State.append_restartCause (k : EventKind) (a b : Nat) : (s.append k a b).restartCause = s.restartCause := rfl
@[simp] theorem State.append_stationClock (k : EventKind) (a b : Nat) : (s.append k a b).stationClock = s.stationClock := rfl
@[simp] theorem State.append_subSecond (k : EventKind) (a b : Nat) : (s.append k a b).subSecond = s.subSecond := rfl
@[simp] theorem State.append_timebase (k : EventKind) (a b : Nat) : (s.append k a b).timebase = s.timebase := rfl
@[simp] theorem State.append_inputs (k : EventKind) (a b : Nat) : (s.append k a b).inputs = s.inputs := rfl
@[simp] theorem State.append_channels (k : EventKind) (a b : Nat) : (s.append k a b).channels = s.channels := rfl
@[simp] theorem State.append_sump (k : EventKind) (a b : Nat) : (s.append k a b).sump = s.sump := rfl
@[simp] theorem State.append_pumps (k : EventKind) (a b : Nat) : (s.append k a b).pumps = s.pumps := rfl
@[simp] theorem State.append_stages (k : EventKind) (a b : Nat) : (s.append k a b).stages = s.stages := rfl
@[simp] theorem State.append_rotation (k : EventKind) (a b : Nat) : (s.append k a b).rotation = s.rotation := rfl
@[simp] theorem State.append_load (k : EventKind) (a b : Nat) : (s.append k a b).load = s.load := rfl
@[simp] theorem State.append_lighting (k : EventKind) (a b : Nat) : (s.append k a b).lighting = s.lighting := rfl
@[simp] theorem State.append_signals (k : EventKind) (a b : Nat) : (s.append k a b).signals = s.signals := rfl
@[simp] theorem State.append_gates (k : EventKind) (a b : Nat) : (s.append k a b).gates = s.gates := rfl
@[simp] theorem State.append_penstock (k : EventKind) (a b : Nat) : (s.append k a b).penstock = s.penstock := rfl
@[simp] theorem State.append_closure (k : EventKind) (a b : Nat) : (s.append k a b).closure = s.closure := rfl
@[simp] theorem State.append_authority (k : EventKind) (a b : Nat) : (s.append k a b).authority = s.authority := rfl
@[simp] theorem State.append_profile (k : EventKind) (a b : Nat) : (s.append k a b).profile = s.profile := rfl
@[simp] theorem State.append_choices (k : EventKind) (a b : Nat) : (s.append k a b).choices = s.choices := rfl
@[simp] theorem State.append_pending (k : EventKind) (a b : Nat) : (s.append k a b).pending = s.pending := rfl
@[simp] theorem State.removePassed_phase : s.removePassed.phase = s.phase := rfl
@[simp] theorem State.removePassed_restartCause : s.removePassed.restartCause = s.restartCause := rfl
@[simp] theorem State.removePassed_stationClock : s.removePassed.stationClock = s.stationClock := rfl
@[simp] theorem State.removePassed_subSecond : s.removePassed.subSecond = s.subSecond := rfl
@[simp] theorem State.removePassed_timebase : s.removePassed.timebase = s.timebase := rfl
@[simp] theorem State.removePassed_inputs : s.removePassed.inputs = s.inputs := rfl
@[simp] theorem State.removePassed_channels : s.removePassed.channels = s.channels := rfl
@[simp] theorem State.removePassed_sump : s.removePassed.sump = s.sump := rfl
@[simp] theorem State.removePassed_pumps : s.removePassed.pumps = s.pumps := rfl
@[simp] theorem State.removePassed_stages : s.removePassed.stages = s.stages := rfl
@[simp] theorem State.removePassed_rotation : s.removePassed.rotation = s.rotation := rfl
@[simp] theorem State.removePassed_load : s.removePassed.load = s.load := rfl
@[simp] theorem State.removePassed_lighting : s.removePassed.lighting = s.lighting := rfl
@[simp] theorem State.removePassed_signals : s.removePassed.signals = s.signals := rfl
@[simp] theorem State.removePassed_gates : s.removePassed.gates = s.gates := rfl
@[simp] theorem State.removePassed_penstock : s.removePassed.penstock = s.penstock := rfl
@[simp] theorem State.removePassed_closure : s.removePassed.closure = s.closure := rfl
@[simp] theorem State.removePassed_authority : s.removePassed.authority = s.authority := rfl
@[simp] theorem State.removePassed_linkA : s.removePassed.linkA = s.linkA := rfl
@[simp] theorem State.removePassed_linkB : s.removePassed.linkB = s.linkB := rfl
@[simp] theorem State.removePassed_profile : s.removePassed.profile = s.profile := rfl
@[simp] theorem State.removePassed_choices : s.removePassed.choices = s.choices := rfl
@[simp] theorem State.removePassed_pending : s.removePassed.pending = s.pending := rfl

end Sys2Proof.Machine
end

