-- ==== Sys2Proof/Laws/Access.lean ====
section
/-! SUPPORT. What an indexed part reads as after an update of one: the part that was written takes the new
value, every other keeps its own. -/

namespace Sys2Proof.Machine

variable (s : State)

/-! ## Pumps, stages, groups, signals -/

theorem State.modPump_pump (p q : PumpId) (f : Pump → Pump) :
    (s.modPump p f).pump q = if q = p then f (s.pump p) else s.pump q := by
  unfold State.pump State.modPump
  split
  · next h => subst h; simp
  · next h =>
    simp only [Fin.getElem_fin]
    exact Vector.getElem_set_ne _ _ (fun e => h (Fin.ext e.symm))

@[simp] theorem State.modPump_pump_self (p : PumpId) (f : Pump → Pump) :
    (s.modPump p f).pump p = f (s.pump p) := by simp [State.modPump_pump]

theorem State.modPump_pump_ne {p q : PumpId} (f : Pump → Pump) (h : q ≠ p) :
    (s.modPump p f).pump q = s.pump q := by simp [State.modPump_pump, h]

theorem State.modStage_stage (k j : StageId) (f : StageCall → StageCall) :
    (s.modStage k f).stage j = if j = k then f (s.stage k) else s.stage j := by
  unfold State.stage State.modStage
  split
  · next h => subst h; simp
  · next h =>
    simp only [Fin.getElem_fin]
    exact Vector.getElem_set_ne _ _ (fun e => h (Fin.ext e.symm))

@[simp] theorem State.modStage_stage_self (k : StageId) (f : StageCall → StageCall) :
    (s.modStage k f).stage k = f (s.stage k) := by simp [State.modStage_stage]

theorem State.modGroup_group (g h : GroupId) (f : LampGroup → LampGroup) :
    (s.modGroup g f).group h = if h = g then f (s.group g) else s.group h := by
  unfold State.group State.modGroup
  split
  · next e => subst e; simp
  · next e =>
    simp only [Fin.getElem_fin]
    exact Vector.getElem_set_ne _ _ (fun x => e (Fin.ext x.symm))

@[simp] theorem State.modGroup_group_self (g : GroupId) (f : LampGroup → LampGroup) :
    (s.modGroup g f).group g = f (s.group g) := by simp [State.modGroup_group]

theorem State.modSignal_signal (n m : SignalId) (f : SignalChannel → SignalChannel) :
    (s.modSignal n f).signal m = if m = n then f (s.signal n) else s.signal m := by
  unfold State.signal State.modSignal
  split
  · next h => subst h; simp
  · next h =>
    simp only [Fin.getElem_fin]
    exact Vector.getElem_set_ne _ _ (fun e => h (Fin.ext e.symm))

@[simp] theorem State.modSignal_signal_self (n : SignalId) (f : SignalChannel → SignalChannel) :
    (s.modSignal n f).signal n = f (s.signal n) := by simp [State.modSignal_signal]

/-! ## Channels, drives, links, inputs -/

theorem State.setChannel_channel (c d : ChannelId) (x : Channel) :
    (s.setChannel c x).channel d = if d = c then x else s.channel d := by
  cases c <;> cases d <;> rfl

theorem State.modChannel_channel (c d : ChannelId) (f : Channel → Channel) :
    (s.modChannel c f).channel d = if d = c then f (s.channel c) else s.channel d :=
  s.setChannel_channel c d _

@[simp] theorem State.modChannel_channel_self (c : ChannelId) (f : Channel → Channel) :
    (s.modChannel c f).channel c = f (s.channel c) := by simp [State.modChannel_channel]

theorem State.modDrive_drive (d e : DriveId) (f : Drive → Drive) :
    (s.modDrive d f).drive e = if e = d then f (s.drive d) else s.drive e := by
  rcases d with (_ | _) | _ <;> rcases e with (_ | _) | _ <;> rfl

@[simp] theorem State.modDrive_drive_self (d : DriveId) (f : Drive → Drive) :
    (s.modDrive d f).drive d = f (s.drive d) := by simp [State.modDrive_drive]

@[simp] theorem State.modDrive_stem (d : DriveId) (f : Drive → Drive) :
    (s.modDrive d f).gates.stem = s.gates.stem := by rcases d with (_ | _) | _ <;> rfl

@[simp] theorem State.modStem_drive (d : DriveId) (f : Stem → Stem) :
    (s.modStem f).drive d = s.drive d := by rcases d with (_ | _) | _ <;> rfl

theorem State.modLink_link (k j : Link) (f : LinkPort → LinkPort) :
    (s.modLink k f).link j = if j = k then f (s.link k) else s.link j := by
  cases k <;> cases j <;> rfl

@[simp] theorem State.modLink_link_self (k : Link) (f : LinkPort → LinkPort) :
    (s.modLink k f).link k = f (s.link k) := by cases k <;> rfl

theorem State.refuse_link (k j : Link) (a : Addr) (r : Reason) (v : Word) :
    (s.refuse k a r v).link j =
      if j = k then { s.link k with refAddr := a, refReason := r, refValue := v, refusal := true }
      else s.link j := s.modLink_link k j _

theorem Inputs.get_put (t : Inputs) (i j : InputId) (q : QInput) :
    (t.put i q).get j = if j = i then q else t.get j := by
  by_cases h : j = i
  · subst h
    simp only [if_pos]
    unfold Inputs.put Inputs.get
    split <;> simp
  · rw [if_neg h]
    unfold Inputs.put
    split <;> unfold Inputs.get <;> split <;>
      first
      | rfl
      | exact absurd rfl h
      | (simp only [Fin.getElem_fin]
         refine Vector.getElem_set_ne _ _ fun e => h ?_
         exact congrArg _ (Fin.ext e.symm))

/-! ## Authority words -/

theorem setAuthority_authorityOf (u w : UnitId) (a : Authority) :
    (setAuthority u a s).authorityOf w = if w = u then a else s.authorityOf w := by
  unfold setAuthority State.authorityOf State.modAuthority
  rcases u with p | _ | _ | _ <;> rcases w with q | _ | _ | _ <;> simp
  split
  · next h => subst h; simp
  · next h => exact Vector.getElem_set_ne _ _ (fun e => h (Fin.ext e.symm))

theorem neutralDemand_authorityOf (u w : UnitId) :
    (neutralDemand u s).authorityOf w = s.authorityOf w := by
  unfold neutralDemand State.authorityOf State.modDemands
  rcases u with p | _ | _ | _ <;> rcases w with q | _ | _ | _ <;> rfl

/-! ## Appends leave every indexed part -/

@[simp] theorem State.append_pump (k : EventKind) (a b : Nat) (p : PumpId) :
    (s.append k a b).pump p = s.pump p := rfl
@[simp] theorem State.append_stage (k : EventKind) (a b : Nat) (j : StageId) :
    (s.append k a b).stage j = s.stage j := rfl
@[simp] theorem State.append_group (k : EventKind) (a b : Nat) (g : GroupId) :
    (s.append k a b).group g = s.group g := rfl
@[simp] theorem State.append_signal (k : EventKind) (a b : Nat) (n : SignalId) :
    (s.append k a b).signal n = s.signal n := rfl
@[simp] theorem State.append_channel (k : EventKind) (a b : Nat) (c : ChannelId) :
    (s.append k a b).channel c = s.channel c := by cases c <;> rfl
@[simp] theorem State.append_drive (k : EventKind) (a b : Nat) (d : DriveId) :
    (s.append k a b).drive d = s.drive d := by rcases d with (_ | _) | _ <;> rfl
@[simp] theorem State.append_level (k : EventKind) (a b : Nat) (i : InputId) :
    (s.append k a b).level i = s.level i := rfl
@[simp] theorem State.append_authorityOf (k : EventKind) (a b : Nat) (u : UnitId) :
    (s.append k a b).authorityOf u = s.authorityOf u := by rcases u with _ | _ | _ | _ <;> rfl

end Sys2Proof.Machine
end

