-- ==== Sys2Proof/Laws/Changes.lean ====
section
/-! SUPPORT. The rules of `Changes` and `Touches`: what composes, what they leave alone, and that the updates
of one part of State change that part only. -/

namespace Sys2Proof.Machine

/-! ## appendAll -/

@[simp] theorem State.appendAll_nil (s : State) : s.appendAll [] = s := rfl

@[simp] theorem State.appendAll_cons (e : Report) (es : List Report) (s : State) :
    s.appendAll (e :: es) = (s.append e.1 e.2.1 e.2.2).appendAll es := rfl

theorem State.appendAll_append (es fs : List Report) (s : State) :
    s.appendAll (es ++ fs) = (s.appendAll es).appendAll fs := List.foldl_append ..

/-- Appending commutes with blanking blocks: no block holds what an append reads or writes. -/
theorem State.sans_append (bs : List Block) (k : EventKind) (a b : Nat) (s : State) :
    (s.append k a b).sans bs = (s.sans bs).append k a b := rfl

theorem State.sans_appendAll (bs : List Block) (es : List Report) (s : State) :
    (s.appendAll es).sans bs = (s.sans bs).appendAll es := by
  induction es generalizing s with
  | nil => rfl
  | cons e es ih => rw [appendAll_cons, ih, sans_append, appendAll_cons]

/-- Blanking more blocks absorbs blanking fewer. -/
theorem State.sans_sans {bs cs : List Block} (h : bs ⊆ cs) (s : State) :
    (s.sans bs).sans cs = s.sans cs := by
  have e (b : Block) {α : Type} (x y : α) :
      (if b ∈ cs then x else if b ∈ bs then x else y) = if b ∈ cs then x else y := by
    by_cases hc : b ∈ cs
    · simp [hc]
    · have hb : b ∉ bs := fun hb => hc (h hb)
      simp [hc, hb]
  unfold State.sans
  simp [e]

/-! ## Composition -/

theorem Changes.refl (bs : List Block) (s : State) : Changes bs [] s s := rfl

theorem Changes.trans {bs : List Block} {es fs : List Report} {s t u : State}
    (h : Changes bs es s t) (k : Changes bs fs t u) : Changes bs (es ++ fs) s u := by
  unfold Changes at *
  rw [k, State.sans_appendAll, h, ← State.sans_appendAll, State.appendAll_append]

theorem Changes.mono {bs cs : List Block} {es : List Report} {s t : State}
    (h : Changes bs es s t) (hs : bs ⊆ cs) : Changes cs es s t := by
  unfold Changes at *
  rw [← State.sans_sans hs, h, State.sans_sans hs]

/-- A quiet change, one without reports, followed by another. -/
theorem Changes.quiet {bs : List Block} {es : List Report} {s t u : State}
    (h : Changes bs [] s t) (k : Changes bs es t u) : Changes bs es s u := h.trans k

/-- A change followed by a quiet one. -/
theorem Changes.thenQuiet {bs : List Block} {es : List Report} {s t u : State}
    (h : Changes bs es s t) (k : Changes bs [] t u) : Changes bs es s u := by
  have := h.trans k
  rwa [List.append_nil] at this

theorem Changes.touches {bs : List Block} {es : List Report} {s t : State}
    (h : Changes bs es s t) : Touches bs s t := ⟨es, h⟩

theorem Touches.refl (bs : List Block) (s : State) : Touches bs s s := ⟨[], rfl⟩

theorem Touches.trans {bs : List Block} {s t u : State} (h : Touches bs s t) (k : Touches bs t u) :
    Touches bs s u := by
  obtain ⟨es, h⟩ := h
  obtain ⟨fs, k⟩ := k
  exact ⟨es ++ fs, h.trans k⟩

theorem Touches.mono {bs cs : List Block} {s t : State} (h : Touches bs s t) (hs : bs ⊆ cs) :
    Touches cs s t := h.imp fun _ k => k.mono hs

theorem Changes.foldl {α : Type} {bs : List Block} {f : State → α → State}
    (h : ∀ s a, Changes bs [] s (f s a)) (l : List α) (s : State) : Changes bs [] s (l.foldl f s) := by
  induction l generalizing s with
  | nil => exact Changes.refl bs s
  | cons a l ih => exact (h s a).quiet (ih _)

theorem Touches.foldl {α : Type} {bs : List Block} {f : State → α → State}
    (h : ∀ s a, Touches bs s (f s a)) (l : List α) (s : State) : Touches bs s (l.foldl f s) := by
  induction l generalizing s with
  | nil => exact Touches.refl bs s
  | cons a l ih => exact (h s a).trans (ih _)

/-! ## What is left alone -/

/-- An append leaves a part of State alone; so do many. -/
theorem State.appendAll_eq {α : Type} (get : State → α)
    (h : ∀ (s : State) k a b, get (s.append k a b) = get s) (es : List Report) (s : State) :
    get (s.appendAll es) = get s := by
  induction es generalizing s with
  | nil => rfl
  | cons e es ih => rw [appendAll_cons, ih, h]

/-- What no append changes and no blanking of `bs` changes is as it was. -/
theorem Changes.keeps {α : Type} (get : State → α) {bs : List Block} {es : List Report} {s t : State}
    (h : Changes bs es s t) (ha : ∀ (s : State) k a b, get (s.append k a b) = get s)
    (hs : ∀ s : State, get (s.sans bs) = get s) : get t = get s := by
  have := congrArg get h
  rwa [hs, hs, State.appendAll_eq get ha] at this

theorem Touches.keeps {α : Type} (get : State → α) {bs : List Block} {s t : State}
    (h : Touches bs s t) (ha : ∀ (s : State) k a b, get (s.append k a b) = get s)
    (hs : ∀ s : State, get (s.sans bs) = get s) : get t = get s :=
  h.elim fun _ k => k.keeps get ha hs

section
variable {bs : List Block} {s t : State}

theorem Touches.phase (h : Touches bs s t) : t.phase = s.phase :=
  h.keeps State.phase (fun _ _ _ _ => rfl) fun _ => rfl
theorem Touches.restartCause (h : Touches bs s t) : t.restartCause = s.restartCause :=
  h.keeps State.restartCause (fun _ _ _ _ => rfl) fun _ => rfl
theorem Touches.stationClock (h : Touches bs s t) : t.stationClock = s.stationClock :=
  h.keeps State.stationClock (fun _ _ _ _ => rfl) fun _ => rfl
theorem Touches.subSecond (h : Touches bs s t) : t.subSecond = s.subSecond :=
  h.keeps State.subSecond (fun _ _ _ _ => rfl) fun _ => rfl
theorem Touches.timebase (h : Touches bs s t) : t.timebase = s.timebase :=
  h.keeps State.timebase (fun _ _ _ _ => rfl) fun _ => rfl
theorem Touches.choices (h : Touches bs s t) : t.choices = s.choices :=
  h.keeps State.choices (fun _ _ _ _ => rfl) fun _ => rfl
theorem Touches.pending (h : Touches bs s t) : t.pending = s.pending :=
  h.keeps State.pending (fun _ _ _ _ => rfl) fun _ => rfl
theorem Touches.inputs (h : Touches bs s t) (hb : Block.inputs ∉ bs) : t.inputs = s.inputs :=
  h.keeps State.inputs (fun _ _ _ _ => rfl) fun _ => by simp [State.sans, hb]
theorem Touches.channels (h : Touches bs s t) (hb : Block.channels ∉ bs) : t.channels = s.channels :=
  h.keeps State.channels (fun _ _ _ _ => rfl) fun _ => by simp [State.sans, hb]
theorem Touches.sump (h : Touches bs s t) (hb : Block.sump ∉ bs) : t.sump = s.sump :=
  h.keeps State.sump (fun _ _ _ _ => rfl) fun _ => by simp [State.sans, hb]
theorem Touches.pumps (h : Touches bs s t) (hb : Block.pumps ∉ bs) : t.pumps = s.pumps :=
  h.keeps State.pumps (fun _ _ _ _ => rfl) fun _ => by simp [State.sans, hb]
theorem Touches.stages (h : Touches bs s t) (hb : Block.pumps ∉ bs) : t.stages = s.stages :=
  h.keeps State.stages (fun _ _ _ _ => rfl) fun _ => by simp [State.sans, hb]
theorem Touches.rotation (h : Touches bs s t) (hb : Block.pumps ∉ bs) : t.rotation = s.rotation :=
  h.keeps State.rotation (fun _ _ _ _ => rfl) fun _ => by simp [State.sans, hb]
theorem Touches.load (h : Touches bs s t) (hb : Block.load ∉ bs) : t.load = s.load :=
  h.keeps State.load (fun _ _ _ _ => rfl) fun _ => by simp [State.sans, hb]
theorem Touches.lighting (h : Touches bs s t) (hb : Block.lighting ∉ bs) : t.lighting = s.lighting :=
  h.keeps State.lighting (fun _ _ _ _ => rfl) fun _ => by simp [State.sans, hb]
theorem Touches.signals (h : Touches bs s t) (hb : Block.signals ∉ bs) : t.signals = s.signals :=
  h.keeps State.signals (fun _ _ _ _ => rfl) fun _ => by simp [State.sans, hb]
theorem Touches.gates (h : Touches bs s t) (hb : Block.gates ∉ bs) : t.gates = s.gates :=
  h.keeps State.gates (fun _ _ _ _ => rfl) fun _ => by simp [State.sans, hb]
theorem Touches.penstock (h : Touches bs s t) (hb : Block.penstock ∉ bs) : t.penstock = s.penstock :=
  h.keeps State.penstock (fun _ _ _ _ => rfl) fun _ => by simp [State.sans, hb]
theorem Touches.closure (h : Touches bs s t) (hb : Block.closure ∉ bs) : t.closure = s.closure :=
  h.keeps State.closure (fun _ _ _ _ => rfl) fun _ => by simp [State.sans, hb]
theorem Touches.authority (h : Touches bs s t) (hb : Block.authority ∉ bs) : t.authority = s.authority :=
  h.keeps State.authority (fun _ _ _ _ => rfl) fun _ => by simp [State.sans, hb]
theorem Touches.profile (h : Touches bs s t) (hb : Block.profile ∉ bs) : t.profile = s.profile :=
  h.keeps State.profile (fun _ _ _ _ => rfl) fun _ => by simp [State.sans, hb]

/-- The parts of a Link Port that no append changes. -/
theorem Touches.link (h : Touches bs s t) (k : Link) :
    t.link k = { s.link k with unread := (t.link k).unread, missed := (t.link k).missed } := by
  have := h.keeps (fun x => { x.link k with unread := none, missed := false })
    (fun s _ _ _ => by
      cases k <;> simp only [State.link, State.append, LinkPort.onAppend] <;> split <;> rfl)
    (fun _ => by cases k <;> rfl)
  have e (x y : LinkPort) (h : { x with unread := none, missed := false } =
      ({ y with unread := none, missed := false } : LinkPort)) :
      x = { y with unread := x.unread, missed := x.missed } := by
    cases x; cases y; simp_all
  exact e _ _ this
end

theorem Changes.events {bs : List Block} {es : List Report} {s t : State} (h : Changes bs es s t) :
    t.events = (s.appendAll es).events := by
  have := congrArg State.events h
  exact this

theorem Changes.linkPort {bs : List Block} {es : List Report} {s t : State} (h : Changes bs es s t)
    (k : Link) : t.link k = (s.appendAll es).link k := by
  have := congrArg (fun x => State.link x k) h
  cases k <;> exact this

/-! ## The updates -/

section
variable {bs : List Block} (s : State)

theorem changes_append (k : EventKind) (a b : Nat) : Changes bs [(k, a, b)] s (s.append k a b) := rfl
theorem touches_append (k : EventKind) (a b : Nat) : Touches bs s (s.append k a b) :=
  (changes_append s k a b).touches

theorem changes_modInputs (h : Block.inputs ∈ bs) (f : Inputs → Inputs) : Changes bs [] s (s.modInputs f) := by
  simp [Changes, State.sans, h]
theorem changes_modSump (h : Block.sump ∈ bs) (f : Sump → Sump) : Changes bs [] s (s.modSump f) := by
  simp [Changes, State.sans, h]
theorem changes_modLoad (h : Block.load ∈ bs) (f : Load → Load) : Changes bs [] s (s.modLoad f) := by
  simp [Changes, State.sans, h]
theorem changes_modLighting (h : Block.lighting ∈ bs) (f : Lighting → Lighting) : Changes bs [] s (s.modLighting f) := by
  simp [Changes, State.sans, h]
theorem changes_modSignals (h : Block.signals ∈ bs) (f : Signals → Signals) : Changes bs [] s (s.modSignals f) := by
  simp [Changes, State.sans, h]
theorem changes_modGates (h : Block.gates ∈ bs) (f : Gates → Gates) : Changes bs [] s (s.modGates f) := by
  simp [Changes, State.sans, h]
theorem changes_modStem (h : Block.gates ∈ bs) (f : Stem → Stem) : Changes bs [] s (s.modStem f) := by
  simp [Changes, State.sans, h]
theorem changes_modPenstock (h : Block.penstock ∈ bs) (f : PenstockControl → PenstockControl) : Changes bs [] s (s.modPenstock f) := by
  simp [Changes, State.sans, h]
theorem changes_modClosure (h : Block.closure ∈ bs) (f : Closure → Closure) : Changes bs [] s (s.modClosure f) := by
  simp [Changes, State.sans, h]
theorem changes_modAuthority (h : Block.authority ∈ bs) (f : AuthorityTable → AuthorityTable) : Changes bs [] s (s.modAuthority f) := by
  simp [Changes, State.sans, h]
theorem changes_modDemands (h : Block.authority ∈ bs) (f : Demands → Demands) : Changes bs [] s (s.modDemands f) := by
  simp [Changes, State.sans, h]
theorem changes_modProfile (h : Block.profile ∈ bs) (f : ProfileStore → ProfileStore) : Changes bs [] s (s.modProfile f) := by
  simp [Changes, State.sans, h]
theorem changes_setRotation (h : Block.pumps ∈ bs) (r : List PumpId) : Changes bs [] s (s.setRotation r) := by
  simp [Changes, State.sans, h]
theorem changes_modPump (h : Block.pumps ∈ bs) (p : PumpId) (f : Pump → Pump) : Changes bs [] s (s.modPump p f) := by
  simp [Changes, State.sans, h]
theorem changes_modStage (h : Block.pumps ∈ bs) (k : StageId) (f : StageCall → StageCall) : Changes bs [] s (s.modStage k f) := by
  simp [Changes, State.sans, h]
theorem changes_modGroup (h : Block.lighting ∈ bs) (g : GroupId) (f : LampGroup → LampGroup) : Changes bs [] s (s.modGroup g f) := by
  simp [Changes, State.sans, h]
theorem changes_modSignal (h : Block.signals ∈ bs) (n : SignalId) (f : SignalChannel → SignalChannel) : Changes bs [] s (s.modSignal n f) := by
  simp [Changes, State.sans, h]
theorem changes_setChannel (h : Block.channels ∈ bs) (c : ChannelId) (x : Channel) : Changes bs [] s (s.setChannel c x) := by
  simp [Changes, State.sans, h]
theorem changes_modChannel (h : Block.channels ∈ bs) (c : ChannelId) (f : Channel → Channel) : Changes bs [] s (s.modChannel c f) := by
  simp [Changes, State.sans, h]
theorem changes_modDrive (h : Block.gates ∈ bs) (d : DriveId) (f : Drive → Drive) : Changes bs [] s (s.modDrive d f) := by
  simp [Changes, State.sans, h]
end

end Sys2Proof.Machine
end

