-- ==== Sys2Proof/Laws/Gates.lean ====
section
/-! SUPPORT. The Signal Driver's and the Gate Drive Units' operations change the signals, or the gates, alone;
a drive reports its arrivals and its faults. -/

namespace Sys2Proof.Machine

/-! ## Signals -/

section
variable {bs : List Block} (hs : Block.signals ∈ bs) (s : State)
include hs

theorem changes_followDisplay (before : State) : Changes bs [] s (followDisplay before s) := by
  unfold followDisplay
  exact Changes.foldl (fun x n => changes_modSignal x hs n _) _ s

theorem changes_judgeLampTest : Changes bs [] s (judgeLampTest s) :=
  (changes_modSignals s hs _).quiet (changes_followDisplay hs _ s)

theorem changes_writeAspects (v : Vector Aspect 8) : Changes bs [] s (writeAspects v s) :=
  (Changes.foldl (fun x n => changes_modSignal x hs n _) _ s).quiet (changes_followDisplay hs _ s)

theorem changes_flashWrap : Changes bs [] s (flashWrap s) :=
  (changes_modSignals s hs _).quiet
    (Changes.foldl (fun x n => changes_modSignal x hs n _) _ _)

/-- A check reports SIGNAL_FAILED where it fails the channel, and nothing else. -/
theorem touches_checkChannel (pos : Nat) (sense : BitVec 8) (n : SignalId) :
    Touches bs s (checkChannel pos sense s n) := by
  have h := changes_modSignal s hs n (·.check (sense.getLsbD n.val))
  unfold checkChannel
  dsimp only
  split
  · split
    · exact (h.quiet (changes_append _ _ _ _)).touches
    · exact h.touches
  · exact Touches.refl bs s

theorem touches_checkAt (pos : Nat) (sense : BitVec 8) : Touches bs s (checkAt pos sense s) :=
  (changes_modSignals s hs _).touches.trans
    (Touches.foldl (fun x n => touches_checkChannel hs x pos sense n) _ _)

theorem changes_deriveRed : Changes bs [] s (deriveRed s) := changes_modSignals s hs _

theorem changes_clearSignals : Changes bs [] s (clearSignals s) :=
  Changes.foldl (fun x n => changes_modSignal x hs n _) _ s

end

/-! ## Drives -/

section
variable {bs : List Block} (hg : Block.gates ∈ bs) (s : State) (d : DriveId)
include hg

theorem changes_setStopCount (n : Option Nat) : Changes bs [] s (setStopCount d n s) := by
  unfold setStopCount
  split
  · exact changes_modStem s hg _
  · exact Changes.refl bs s

theorem changes_motorStop : Changes bs [] s (motorStop d s) := by
  unfold motorStop
  dsimp only
  split
  · split
    · exact (changes_modDrive s hg d _).quiet (changes_modStem _ hg _)
    · exact changes_modDrive s hg d _
  · exact Changes.refl bs s

theorem changes_rest (a : Arrival) : Changes bs [] s (rest d a s) :=
  (changes_modDrive s hg d _).quiet (changes_setStopCount hg _ d none)

theorem changes_stopShort : Changes bs [] s (stopShort d s) :=
  (changes_motorStop hg s d).quiet (changes_rest hg _ d .none)

/-- An arrival reports DRIVE_ARRIVED. -/
theorem changes_arrive (a : Arrival) :
    Changes bs [(.driveArrived, driveIndex d, a.code)] s (arrive d a s).1 :=
  (changes_motorStop hg s d).quiet ((changes_rest hg _ d a).quiet (changes_append _ _ _ _))

/-- Entry to FAULTED reports DRIVE_FAULT. -/
theorem changes_faultDrive (c : DriveFault) :
    Changes bs [(.driveFault, driveIndex d, c.code)] s (faultDrive d c s).1 :=
  (changes_motorStop hg s d).quiet ((changes_rest hg _ d .none).quiet
    ((changes_modDrive _ hg d _).quiet (changes_append _ _ _ _)))

theorem changes_startMotor (up : Bool) (n : Option Nat) : Changes bs [] s (startMotor d up n s).1 := by
  unfold startMotor
  dsimp only
  have h := changes_modDrive s hg d fun x =>
    { x with state := if up then .drivingUp else .drivingDown, pending := .none, arrival := .none,
             travel := .running (Param.travelTime s.prof d) }
  generalize s.modDrive d _ = x at h ⊢
  rcases d with b | _
  · dsimp only
    by_cases c : (!up && x.level (.obstruction b)) = true
    · rw [if_pos c]
      exact h.quiet (changes_stopShort hg x _)
    · rw [if_neg c]
      exact h
  · exact h.quiet (changes_modStem x hg _)

theorem touches_startProcedure (up : Bool) (n : Option Nat) :
    Touches bs s (startProcedure d up n s).1 := by
  unfold startProcedure
  split
  · exact (changes_arrive hg s d _).touches
  · split
    · exact (changes_arrive hg s d _).touches
    · split
      · exact (changes_arrive hg s d _).touches
      · split
        · exact ((changes_modDrive s hg d _).quiet (changes_setStopCount hg _ d n)).touches
        · exact (changes_startMotor hg s d up n).touches

theorem touches_sameDirection (up : Bool) (n : Option Nat) : Touches bs s (sameDirection d up n s).1 := by
  have h := changes_setStopCount hg s d n
  unfold sameDirection
  dsimp only
  split
  · exact (h.quiet (changes_arrive hg _ d _)).touches
  · exact h.touches

theorem touches_moveDrive (up : Bool) (n : Option Nat) : Touches bs s (moveDrive d up n s).1 := by
  have rev := (changes_motorStop hg s d).touches.trans (touches_startProcedure hg _ d up n)
  unfold moveDrive
  split
  · exact touches_startProcedure hg s d up n
  · split
    · exact (changes_setStopCount hg s d n).touches
    · exact touches_startProcedure hg s d up n
  · split
    · exact touches_sameDirection hg s d up n
    · exact rev
  · split
    · exact rev
    · exact touches_sameDirection hg s d up n
  · exact Touches.refl bs s

theorem changes_stopDrive : Changes bs [] s (stopDrive d s) := by
  unfold stopDrive
  split
  · exact Changes.refl bs s
  · exact Changes.refl bs s
  all_goals exact changes_stopShort hg s d

theorem touches_commandMove (up : Bool) (n : Option Nat) : Touches bs s (commandMove d up n s).1 := by
  unfold commandMove
  split
  · exact Touches.refl bs s
  · split
    · exact (changes_stopDrive hg s d).touches
    · exact touches_moveDrive hg s d up n

/-- A command given to a drive changes the gates alone. -/
theorem touches_commandDrive (c : DriveCommand) : Touches bs s (commandDrive d c s).1 := by
  unfold commandDrive
  split
  · exact touches_commandMove hg s d _ _
  · exact touches_commandMove hg s d _ _
  · exact (changes_stopDrive hg s d).touches

theorem touches_dwellExpired : Touches bs s (dwellExpired d s).1 := by
  have h := (changes_modDrive s hg d fun x => { x with dwell := .expired }).touches
  unfold dwellExpired
  dsimp only
  split
  · generalize s.modDrive d _ = x at h ⊢
    split
    · split
      · exact h.trans (touches_startProcedure hg x d _ _)
      · exact h.trans (changes_rest hg x d .none).touches
    · exact h
  · exact Touches.refl bs s

theorem touches_travelExpired : Touches bs s (travelExpired d s).1 := by
  unfold travelExpired
  split
  · exact (changes_faultDrive hg s d _).touches
  · exact Touches.refl bs s

theorem touches_stallExpired : Touches bs s (stallExpired s).1 := by
  unfold stallExpired
  split
  · exact (changes_faultDrive hg s _ _).touches
  · exact Touches.refl bs s

theorem touches_referenceAtLimit (up : Bool) : Touches bs s (referenceAtLimit up s) := by
  unfold referenceAtLimit
  dsimp only
  split
  · exact (changes_modStem s hg _).touches
  · split
    · exact ((changes_modStem s hg _).quiet (changes_append _ _ _ _)).touches
    · exact Touches.refl bs s

theorem touches_limitChanged (up : Bool) : Touches bs s (limitChanged d up s).1 := by
  have h : Touches bs s (if d = .penstock ∧ s.limit d up then referenceAtLimit up s else s) := by
    split
    · exact touches_referenceAtLimit hg s up
    · exact Touches.refl bs s
  unfold limitChanged
  dsimp only
  generalize (if d = .penstock ∧ s.limit d up then referenceAtLimit up s else s) = x at h ⊢
  split
  · exact h.trans (changes_faultDrive hg x d _).touches
  · split
    · exact h.trans (changes_arrive hg x d _).touches
    · exact h

theorem changes_setPermit (b : Barrier) (p : Bool) : Changes bs [] s (setPermit b p s) := by
  have h := changes_modDrive s hg (.barrier b) fun x => { x with permit := p }
  unfold setPermit
  dsimp only
  split
  · exact h.quiet (changes_stopShort hg _ _)
  · exact h

theorem changes_obstructionActive (b : Barrier) : Changes bs [] s (obstructionActive b s).1 := by
  unfold obstructionActive
  split
  · exact changes_stopShort hg s _
  · exact Changes.refl bs s

theorem touches_torqueActive : Touches bs s (torqueActive s).1 := by
  unfold torqueActive
  split
  · exact (changes_faultDrive hg s _ _).touches
  · have h := changes_modStem s hg fun x => { x with seatBand := Param.seatBand s.prof }
    dsimp only
    split
    · exact (h.quiet ((changes_modStem _ hg _).quiet (changes_arrive hg _ _ _))).touches
    · exact (h.quiet (changes_faultDrive hg _ _ _)).touches
  all_goals exact Touches.refl bs s

theorem changes_restartStall : Changes bs [] s (restartStall s) := by
  unfold restartStall
  split
  · exact changes_modStem s hg _
  · exact Changes.refl bs s

theorem touches_acceptEdge (e : EncoderChannel) : Touches bs s (acceptEdge e s).1 := by
  unfold acceptEdge
  dsimp only
  have h := ((changes_modStem s hg fun x =>
    { x.toggle e with
      count := stepCount (opens e s.gates.stem) s.gates.stem.count
      seatFlag := x.flagAt (stepCount (opens e s.gates.stem) s.gates.stem.count) }).quiet (changes_restartStall hg _)).touches
  generalize restartStall _ = x at h ⊢
  split
  · exact h.trans (changes_arrive hg x _ _).touches
  · exact h

theorem touches_doubleEdge : Touches bs s (doubleEdge s) := by
  unfold doubleEdge
  dsimp only
  have h := ((changes_modStem s hg fun x =>
    { x with encA := !x.encA, encB := !x.encB, referenced := false, seatFlag := false }).quiet
      (changes_restartStall hg _)).touches
  generalize restartStall _ = x at h ⊢
  have k : Touches bs s
      (if s.gates.stem.referenced then x.append .referenceLost 3 x.gates.stem.count else x) := by
    split
    · exact h.trans (touches_append x _ _ _)
    · exact h
  generalize (if s.gates.stem.referenced then _ else x) = y at k ⊢
  split
  · exact k.trans (changes_stopShort hg y _).touches
  · exact k

theorem changes_clearDrive : Changes bs [] s (clearDrive d s) := by
  unfold clearDrive
  split
  · split
    · exact changes_modDrive s hg d _
    · exact changes_modDrive s hg d _
  · exact Changes.refl bs s

end

end Sys2Proof.Machine
end

