-- ==== Sys2Proof/Laws/Closure.lean ====
section
/-! SUPPORT. The Closure Sequencer's operations change the signals, the gates and the Closure record alone. -/

namespace Sys2Proof.Machine

section
variable {bs : List Block} (hc : Block.closure ∈ bs) (s : State) (b : Barrier)
include hc

theorem changes_setPhase (p : BarrierPhase) : Changes bs [] s (setPhase b p s) := changes_modClosure s hc _

theorem changes_setClearWait (t : Timer) : Changes bs [] s (setClearWait b t s) := changes_modClosure s hc _

theorem changes_judgeClearance : Changes bs [] s (judgeClearance s) := by
  unfold judgeClearance
  split
  · exact changes_modClosure s hc _
  · exact changes_modClosure s hc _

theorem changes_judgeClearWait : Changes bs [] s (judgeClearWait b s) := changes_setClearWait hc s b _

/-- The onset of the advised condition reports CLOSURE_ADVISED; nothing else changes but the record. -/
theorem touches_judgeAdvised : Touches bs s (judgeAdvised s) := by
  have h := changes_modClosure s hc fun x => { x with advised := advisedNow s }
  unfold judgeAdvised
  dsimp only
  split
  · exact (h.quiet (changes_append _ _ _ _)).touches
  · exact h.touches

theorem changes_judgeDepth : Changes bs [] s (judgeDepth s) := by
  unfold judgeDepth
  dsimp only
  split
  · exact Changes.refl bs s
  · split
    · split
      · exact Changes.refl bs s
      · split
        · exact changes_modClosure s hc _
        · exact changes_modClosure s hc _
    · exact changes_modClosure s hc _

theorem changes_judgeSumpBackup : Changes bs [] s (judgeSumpBackup s) := by
  unfold judgeSumpBackup
  split
  · exact Changes.refl bs s
  · exact changes_modClosure s hc _

variable (hg : Block.gates ∈ bs)
include hg
omit hc in
theorem changes_judgePermits : Changes bs [] s (judgePermits s) :=
  Changes.foldl (fun x b => changes_setPermit hg x b _) _ s

omit hc in
theorem changes_stopBarriers : Changes bs [] s (stopBarriers s) :=
  Changes.foldl (fun x b => changes_stopDrive hg x (.barrier b)) _ s

variable (hs : Block.signals ∈ bs)
include hs

/-- A change of the Closure State reports CLOSURE_STATE, and nothing else. -/
theorem changes_changeState (new : ClosureState) (halt : HaltCause) :
    Changes bs [(.closureState, 0, new.code)] s (changeState new halt s) := by
  have h := (changes_modClosure s hc (·.enter new halt)).quiet (changes_append _ .closureState 0 new.code)
  exact h.thenQuiet ((changes_judgeLampTest hs _).quiet ((changes_writeAspects hs _ _).quiet
    ((changes_deriveRed hs _).quiet (changes_judgePermits _ hg))))

theorem changes_toAlert : Changes bs [(.closureState, 0, ClosureState.alert.code)] s (toAlert s) :=
  (changes_changeState hc s hg hs _ _).thenQuiet (changes_modClosure _ hc _)

theorem touches_toOpen : Touches bs s (toOpen s) := by
  have h := (changes_changeState hc s hg hs .open .none).touches
  unfold toOpen
  dsimp only
  split
  · exact h.trans (changes_toAlert hc _ hg hs).touches
  · exact h

theorem changes_toStop : Changes bs [(.closureState, 0, ClosureState.stop.code)] s (toStop s) :=
  (changes_changeState hc s hg hs _ _).thenQuiet (changes_judgeClearance hc _)

theorem changes_toClosed : Changes bs [(.closureState, 0, ClosureState.closed.code)] s (toClosed s) :=
  changes_changeState hc s hg hs _ _

theorem changes_toHalted (c : HaltCause) :
    Changes bs [(.closureState, 0, ClosureState.halted.code)] s (toHalted c s) :=
  (changes_changeState hc s hg hs _ _).thenQuiet (changes_stopBarriers _ hg)

theorem touches_loweringArrival (a : Arrival) : Touches bs s (loweringArrival b a s) := by
  unfold loweringArrival
  split
  · have h := (changes_setPhase hc s b .downDone).touches
    dsimp only
    split
    · exact h.trans (changes_toClosed hc _ hg hs).touches
    · exact h
  · split
    · exact ((changes_setPhase hc s b _).quiet (changes_judgeClearWait hc _ b)).touches
    · exact Touches.refl bs s

theorem touches_loweringObstruction : Touches bs s (loweringObstruction b s) := by
  unfold loweringObstruction
  dsimp only
  have h := ((changes_modClosure s hc fun x =>
      { x with obstructions := countObstruction s.closure.obstructions }).quiet
    (changes_append _ .barrierObstructed (driveIndex (.barrier b))
      (countObstruction s.closure.obstructions))).touches
  generalize State.append .barrierObstructed _ _ _ = x at h ⊢
  split
  · exact h.trans (changes_toHalted hc x hg hs _).touches
  · have k := (h.trans (changes_setPhase hc x b .retreating).touches).trans
      (touches_commandDrive hg _ (.barrier b) (.up none))
    generalize commandDrive (.barrier b) (.up none) _ = r at k ⊢
    obtain ⟨y, news⟩ := r
    dsimp only at k ⊢
    split
    · exact k.trans (touches_loweringArrival hc y b hg hs _)
    all_goals exact k

theorem touches_loweringNews (news : News) : Touches bs s (loweringNews b news s) := by
  unfold loweringNews
  split
  · split
    · exact touches_loweringArrival hc s b hg hs _
    · exact touches_loweringObstruction hc s b hg hs
    · exact (changes_toHalted hc s hg hs _).touches
    · exact Touches.refl bs s
  · exact Touches.refl bs s

theorem touches_raisingArrival (a : Arrival) : Touches bs s (raisingArrival b a s) := by
  unfold raisingArrival
  split
  · have h := (changes_setPhase hc s b .upDone).touches
    dsimp only
    split
    · exact h.trans (touches_toOpen hc _ hg hs)
    · exact h
  · exact Touches.refl bs s

theorem touches_raisingNews (news : News) : Touches bs s (raisingNews b news s) := by
  unfold raisingNews
  split
  · split
    · exact touches_raisingArrival hc s b hg hs _
    · exact (changes_toHalted hc s hg hs _).touches
    all_goals exact Touches.refl bs s
  · exact Touches.refl bs s

omit hs in
theorem touches_descend : Touches bs s (descend b s).1 :=
  (changes_setPhase hc s b _).touches.trans (touches_commandDrive hg _ _ _)

omit hc hs in
/-- A command to each barrier in turn, and what the drives then deliver, taken in the same order. -/
theorem touches_bothBarriers (c : DriveCommand) (f : Barrier → News → State → State)
    (hf : ∀ b n x, Touches bs x (f b n x)) :
    Touches bs s
      (let (s, n1) := commandDrive (.barrier .one) c s
       let (s, n2) := commandDrive (.barrier .two) c s
       f .two n2 (f .one n1 s)) := by
  have h := touches_commandDrive hg s (.barrier .one) c
  generalize commandDrive (.barrier .one) c s = r at h ⊢
  obtain ⟨x, n1⟩ := r
  have k := h.trans (touches_commandDrive hg x (.barrier .two) c)
  dsimp only
  generalize commandDrive (.barrier .two) c x = q at k ⊢
  obtain ⟨y, n2⟩ := q
  exact (k.trans (hf .one n1 y)).trans (hf .two n2 _)

/-- Entry to LOWERING, with all that the DOWN commands bring about at once. -/
theorem touches_toLowering : Touches bs s (toLowering s) := by
  unfold toLowering
  split
  · exact (changes_toHalted hc s hg hs _).touches
  · have h := (changes_changeState hc s hg hs .lowering .none).touches.trans
      ((changes_setPhase hc _ .one .descending).quiet (changes_setPhase hc _ .two .descending)).touches
    exact h.trans (touches_bothBarriers _ hg (.down none) loweringNews
      fun b n x => touches_loweringNews hc x b hg hs n)

theorem touches_reclose : Touches bs s (reclose s) := by
  have h := (changes_stopBarriers s hg).touches
  unfold reclose
  dsimp only
  split
  · exact h.trans (touches_toLowering hc _ hg hs)
  · exact h.trans (changes_toStop hc _ hg hs).touches

theorem touches_toRaising : Touches bs s (toRaising s) := by
  have h := (changes_changeState hc s hg hs .raising .none).touches.trans
    ((changes_setPhase hc _ .one .ascending).quiet (changes_setPhase hc _ .two .ascending)).touches
  have k := h.trans (touches_bothBarriers _ hg (.up none) raisingNews
    fun b n x => touches_raisingNews hc x b hg hs n)
  unfold toRaising
  dsimp only at k ⊢
  split
  · exact k.trans (touches_reclose hc _ hg hs)
  · exact k

/-! ## Triggers -/

theorem touches_triggerByState : Touches bs s (triggerByState s) := by
  unfold triggerByState
  split
  · exact (changes_toAlert hc s hg hs).touches
  · exact touches_reclose hc s hg hs
  · split
    · exact (changes_toStop hc s hg hs).touches
    · exact Touches.refl bs s
  all_goals exact Touches.refl bs s

theorem touches_judgeTrigger : Touches bs s (judgeTrigger s) := by
  unfold judgeTrigger
  split
  · exact (touches_triggerByState hc s hg hs).trans (touches_judgeAdvised hc _)
  · exact touches_judgeAdvised hc s

theorem touches_flagsJudged (before : State) : Touches bs s (flagsJudged before s) := by
  unfold flagsJudged
  split
  · exact touches_judgeTrigger hc s hg hs
  · exact touches_judgeAdvised hc s

theorem touches_closureOnCarriageway (c : Bool) : Touches bs s (closureOnCarriageway c s) := by
  have h := (changes_judgeDepth hc s).touches
  unfold closureOnCarriageway
  dsimp only
  split
  · exact (h.trans (changes_judgeSumpBackup hc _).touches).trans (touches_flagsJudged hc _ hg hs s)
  · exact h.trans (touches_flagsJudged hc _ hg hs s)

theorem touches_closureOnSump : Touches bs s (closureOnSump s) :=
  (changes_judgeSumpBackup hc s).touches.trans (touches_flagsJudged hc _ hg hs s)

theorem touches_closureOnFlood : Touches bs s (closureOnFlood s) :=
  (changes_modClosure s hc _).touches.trans (touches_flagsJudged hc _ hg hs s)

/-! ## Timers, drives, signals, commands -/

theorem touches_confirmExpired : Touches bs s (confirmExpired s) := by
  unfold confirmExpired
  split
  · exact (changes_modClosure s hc _).touches.trans (touches_flagsJudged hc _ hg hs s)
  · exact Touches.refl bs s

theorem touches_alertExpired : Touches bs s (alertExpired s) := by
  unfold alertExpired
  split
  · exact (changes_toStop hc s hg hs).touches.trans (touches_judgeAdvised hc _)
  · exact Touches.refl bs s

theorem touches_clearanceExpired : Touches bs s (clearanceExpired s) := by
  unfold clearanceExpired
  split
  · exact (touches_toLowering hc s hg hs).trans (touches_judgeAdvised hc _)
  · exact Touches.refl bs s

theorem touches_clearWaitExpired : Touches bs s (clearWaitExpired b s) := by
  unfold clearWaitExpired
  split
  · have h := (changes_setClearWait hc s b .expired).touches.trans (touches_descend hc _ b hg)
    generalize descend b _ = r at h ⊢
    obtain ⟨x, news⟩ := r
    exact (h.trans (touches_loweringNews hc x b hg hs news)).trans (touches_judgeAdvised hc _)
  · exact Touches.refl bs s

theorem touches_barrierNews (news : News) : Touches bs s (barrierNews b news s) := by
  unfold barrierNews
  split
  · exact (touches_loweringNews hc s b hg hs news).trans (touches_judgeAdvised hc _)
  · exact (touches_raisingNews hc s b hg hs news).trans (touches_judgeAdvised hc _)

theorem touches_barrierLeftDown : Touches bs s (barrierLeftDown b s) := by
  unfold barrierLeftDown
  split
  · have h := touches_descend hc s b hg
    generalize descend b s = r at h ⊢
    obtain ⟨x, news⟩ := r
    exact (h.trans (touches_loweringNews hc x b hg hs news)).trans (touches_judgeAdvised hc _)
  · exact Touches.refl bs s

theorem touches_barrierLimitChanged (up : Bool) : Touches bs s (barrierLimitChanged b up s) := by
  have h := touches_limitChanged hg s (.barrier b) up
  unfold barrierLimitChanged
  generalize limitChanged (.barrier b) up s = r at h ⊢
  obtain ⟨x, news⟩ := r
  exact (h.trans (touches_barrierNews hc x b hg hs news)).trans (touches_barrierLeftDown hc _ b hg hs)

theorem touches_barrierObstructionChanged : Touches bs s (barrierObstructionChanged b s) := by
  have h : Touches bs s (if s.level (.obstruction b) then obstructionActive b s else (s, .quiet)).1 := by
    split
    · exact (changes_obstructionActive hg s b).touches
    · exact Touches.refl bs s
  unfold barrierObstructionChanged
  generalize (if s.level (.obstruction b) then obstructionActive b s else (s, .quiet)) = r at h ⊢
  obtain ⟨x, news⟩ := r
  have k := h.trans (touches_barrierNews hc x b hg hs news)
  dsimp only
  split
  · exact k.trans (changes_judgeClearWait hc _ b).touches
  · exact k

theorem touches_redDelivered (before : State) : Touches bs s (redDelivered before s) := by
  unfold redDelivered
  split
  · exact Touches.refl bs s
  · have h := (changes_judgePermits s hg).touches
    dsimp only
    generalize judgePermits s = x at h ⊢
    split
    · exact h.trans (changes_judgeClearance hc x).touches
    · split
      · exact h
      · exact h.trans (((changes_stopBarriers x hg).quiet (changes_toStop hc _ hg hs)).touches.trans
          (touches_judgeAdvised hc _))
    all_goals exact h

theorem touches_lampTestChanged : Touches bs s (lampTestChanged s) :=
  ((changes_judgeLampTest hs s).quiet (changes_deriveRed hs _)).touches.trans
    (touches_redDelivered hc _ hg hs s)

theorem touches_closeRoad : Touches bs s (closeRoad s) := by
  unfold closeRoad
  split
  · exact (changes_toAlert hc s hg hs).touches.trans (touches_judgeAdvised hc _)
  · exact (touches_reclose hc s hg hs).trans (touches_judgeAdvised hc _)
  all_goals exact Touches.refl bs s

theorem touches_resumeRoad : Touches bs s (resumeRoad s) :=
  ((Changes.foldl (fun x b => changes_clearDrive hg x (.barrier b)) _ s).quiet
    (changes_toStop hc _ hg hs)).touches.trans (touches_judgeAdvised hc _)

theorem touches_reopenRoad : Touches bs s (reopenRoad s) := by
  unfold reopenRoad
  split
  · exact Touches.refl bs s
  · exact Touches.refl bs s
  · split
    · exact (touches_toOpen hc s hg hs).trans (touches_judgeAdvised hc _)
    · exact (touches_toRaising hc s hg hs).trans (touches_judgeAdvised hc _)
  · split
    · exact (touches_toOpen hc s hg hs).trans (touches_judgeAdvised hc _)
    · exact (touches_toRaising hc s hg hs).trans (touches_judgeAdvised hc _)
  all_goals exact (touches_toRaising hc s hg hs).trans (touches_judgeAdvised hc _)

theorem touches_panelClose : Touches bs s (panelClose s) := by
  unfold panelClose
  split
  · exact touches_resumeRoad hc s hg hs
  · exact touches_closeRoad hc s hg hs

theorem touches_panelReopen : Touches bs s (panelReopen s) := by
  unfold panelReopen
  split
  · exact Touches.refl bs s
  · exact touches_reopenRoad hc s hg hs

theorem touches_clearRoad : Touches bs s (clearRoad s) :=
  ((Changes.foldl (fun x b => changes_clearDrive hg x (.barrier b)) bothBarriers s).quiet
    ((changes_clearSignals hs _).quiet (changes_deriveRed hs _))).touches.trans
    (touches_redDelivered hc _ hg hs _)

theorem touches_positionReached (pos : Word) (sense : BitVec 8) :
    Touches bs s (positionReached pos sense s) := by
  unfold positionReached
  split
  · exact ((touches_checkAt hs s pos.toNat sense).trans (changes_deriveRed hs _).touches).trans
      (touches_redDelivered hc _ hg hs s)
  · exact Touches.refl bs s

end

end Sys2Proof.Machine
end

