-- ==== Sys2Proof/Laws/Frames.lean ====
section
/-! SUPPORT. When a part of a frame acts, and what its bytes do: the rules by which a frame given in parts is
the frame given whole. -/

namespace Sys2Proof.Machine

section
variable (k : Link) (s : State)

/-- A part that the select line does not admit has no effect. -/
theorem framePart_refused (f : Frame) (c : Option Byte) (start : Start) (bytes : List Byte)
    (h : (s.link f.link).select.admits f.part c = false) : framePart f c start bytes s = s := by
  simp [framePart, h]

/-- A whole frame on a released select line. -/
theorem framePart_whole (c : Option Byte) (start : Start) (bytes : List Byte)
    (h : (s.link k).select = .released) :
    framePart ⟨k, .whole⟩ c start bytes s =
      releaseSelect k (bytes.foldl (shiftByte k) (takeCommand k c start (assertSelect k s))) := by
  simp [framePart, h, Select.admits, FramePart.begins, FramePart.ends]

/-- The first part of a frame on a released select line leaves its select asserted. -/
theorem framePart_first (c : Option Byte) (start : Start) (bytes : List Byte)
    (h : (s.link k).select = .released) :
    framePart ⟨k, .first⟩ c start bytes s =
      bytes.foldl (shiftByte k) (takeCommand k c start (assertSelect k s)) := by
  simp [framePart, h, Select.admits, FramePart.begins, FramePart.ends]

/-- A later part of the frame that is open. -/
theorem framePart_middle (c : Byte) (use : Shift) (start : Start) (bytes : List Byte)
    (h : (s.link k).select = .framing c use) :
    framePart ⟨k, .middle⟩ (some c) start bytes s = bytes.foldl (shiftByte k) s := by
  simp [framePart, h, Select.admits, FramePart.begins, FramePart.ends]

/-- The last part of the frame that is open. -/
theorem framePart_last (c : Byte) (use : Shift) (start : Start) (bytes : List Byte)
    (h : (s.link k).select = .framing c use) :
    framePart ⟨k, .last⟩ (some c) start bytes s = releaseSelect k (bytes.foldl (shiftByte k) s) := by
  simp [framePart, h, Select.admits, FramePart.begins, FramePart.ends]

/-- A byte of an open frame is used, and its answer is the next of `dataOut`. -/
theorem shiftByte_framing (c : Byte) (use : Shift) (b : Byte) (h : (s.link k).select = .framing c use) :
    shiftByte k s b = (useByte k b use s).2.2.modLink k fun x =>
      { x with select := .framing c (useByte k b use s).2.1
               dataOut := x.dataOut ++ [(useByte k b use s).1] } := by
  simp [shiftByte, h]

/-- With no command byte completed, bytes do nothing. -/
theorem shiftByte_idle (b : Byte) (h : ∀ c use, (s.link k).select ≠ .framing c use) :
    shiftByte k s b = s := by
  unfold shiftByte
  split
  · next c use e => exact absurd e (h c use)
  all_goals rfl

/-- Bytes that no rule uses are answered 0. -/
theorem shiftBytes_ignore (c : Byte) (bytes : List Byte) :
    ∀ s : State, (s.link k).select = .framing c .ignore →
      bytes.foldl (shiftByte k) s =
        s.modLink k fun x => { x with dataOut := x.dataOut ++ zeros bytes.length } := by
  induction bytes with
  | nil => intro s h; cases k <;> simp [zeros, State.modLink]
  | cons b rest ih =>
    intro s h
    rw [List.foldl_cons, shiftByte_framing k s c .ignore b h, ih]
    · cases k <;>
        simp_all [useByte, zeros, State.modLink, State.link, List.replicate_succ]
    · cases k <;> rfl

/-- A byte cut short, or a select line that opened no frame, ends without an effect; and so does every frame but
a HARD_RESET of exactly its one byte. -/
theorem releaseSelect_quiet (h : ∀ c, (s.link k).select ≠ .framing c .reset) :
    releaseSelect k s = s.modLink k fun x => { x with select := .released } := by
  unfold releaseSelect
  split
  · next c e => exact absurd e (h c)
  all_goals rfl

end

end Sys2Proof.Machine
end

