-- ==== Sys2Proof/Laws/Links.lean ====
section
/-! SUPPORT. How a word comes to be applied, and that appends and removals keep the Event Queue in bounds. -/

namespace Sys2Proof.Machine

/-! ## The Image Port -/

section
variable (k : Link) (a : Addr) (v : Word) (f : State → State) (s : State)

theorem portApply_notRunning (h : s.phase ≠ .running) : portApply k a v f s = s := by
  simp [portApply, h]

theorem portApply_empty (h : s.phase = .running) (e : (s.link k).fifo = []) :
    portApply k a v f s = f s := by
  simp [portApply, h, e]

theorem portApply_front (h : s.phase = .running) (rest : List (Addr × Word))
    (e : (s.link k).fifo = (a, v) :: rest) :
    portApply k a v f s = (f s).modLink k fun x => { x with fifo := x.fifo.drop 1 } := by
  simp [portApply, h, e]

theorem portApply_other (e : Addr × Word) (rest : List (Addr × Word))
    (h : (s.link k).fifo = e :: rest) (hne : e ≠ (a, v)) : portApply k a v f s = s := by
  simp [portApply, h, hne]

/-- A word's command applies the word with whatever its rule gives. -/
theorem applies_of_portApply {i : Instr} {Q : State → Prop}
    (h : exec i s = .next (portApply k a v f s)) (hq : Q (f s)) : Applies i k a v s Q := by
  intro hr
  refine ⟨fun e => ⟨f s, ?_, hq⟩, fun rest e => ⟨f s, ?_, hq⟩⟩
  · rw [h, portApply_empty k a v f s hr e]
  · rw [h, portApply_front k a v f s hr rest e]

end

/-! ## The Event Queue -/

section
variable (s : State)

theorem append_length (k : EventKind) (a b : Nat) :
    (s.append k a b).events.entries.length
      = if 32 ≤ s.events.entries.length then s.events.entries.length else s.events.entries.length + 1 := by
  unfold State.append
  dsimp only
  by_cases h : 32 ≤ s.events.entries.length
  · simp [h]
    omega
  · simp [h]

theorem append_link (k : EventKind) (a b : Nat) (j : Link) :
    (s.append k a b).link j = (s.link j).onAppend (decide (32 ≤ s.events.entries.length))
      s.events.entries.length := by
  cases j <;> rfl

theorem append_link_state (k : EventKind) (a b : Nat) (j : Link) :
    ((s.append k a b).link j).state = (s.link j).state := by
  rw [append_link]
  unfold LinkPort.onAppend
  dsimp only
  split <;> rfl

theorem append_unread (k : EventKind) (a b : Nat) (j : Link) :
    ((s.append k a b).link j).unread =
      if 32 ≤ s.events.entries.length ∧ (s.link j).unread = some s.events.entries.length then
        (s.link j).unread
      else (s.link j).unread.map (· + 1) := by
  rw [append_link]
  unfold LinkPort.onAppend
  dsimp only
  by_cases h : 32 ≤ s.events.entries.length
  · by_cases e : (s.link j).unread = some s.events.entries.length
    · simp [h, e]
      omega
    · simp [h, e]
  · simp [h]

/-- An append keeps the Event Queue in bounds (R170). -/
theorem eventsBounded_append (h : EventsBounded s) (k : EventKind) (a b : Nat) :
    EventsBounded (s.append k a b) := by
  obtain ⟨hl, hu⟩ := h
  refine ⟨?_, fun j n hn => ?_⟩
  · rw [append_length]
    split <;> omega
  · rw [append_unread] at hn
    rw [append_length]
    by_cases hf : 32 ≤ s.events.entries.length
    · rw [if_pos hf]
      by_cases e : (s.link j).unread = some s.events.entries.length
      · rw [if_pos ⟨hf, e⟩] at hn
        exact hu j n hn
      · rw [if_neg (fun c => e c.2)] at hn
        cases hx : (s.link j).unread with
        | none => simp [hx] at hn
        | some m =>
          have := hu j m hx
          have : m ≠ s.events.entries.length := fun c => e (by rw [hx, c])
          simp [hx] at hn
          omega
    · rw [if_neg hf]
      rw [if_neg (fun c => hf c.1)] at hn
      cases hx : (s.link j).unread with
      | none => simp [hx] at hn
      | some m =>
        have := hu j m hx
        simp [hx] at hn
        omega

theorem eventsBounded_appendAll (h : EventsBounded s) (es : List Report) :
    EventsBounded (s.appendAll es) := by
  induction es generalizing s with
  | nil => exact h
  | cons e es ih => exact ih _ (eventsBounded_append s h _ _ _)

theorem eventsBounded_of_eq {t : State} (he : t.events.entries.length = s.events.entries.length)
    (hu : ∀ k, (t.link k).unread = (s.link k).unread) (h : EventsBounded s) : EventsBounded t := by
  obtain ⟨hl, hx⟩ := h
  refine ⟨he ▸ hl, fun k n hn => ?_⟩
  rw [he]
  exact hx k n (hu k ▸ hn)

/-- What the blocks do keeps the Event Queue in bounds: they append and nothing else. -/
theorem Changes.eventsBounded {bs : List Block} {es : List Report} {s t : State} (h : Changes bs es s t)
    (hs : EventsBounded s) : EventsBounded t :=
  eventsBounded_of_eq (s.appendAll es) (by rw [h.events]) (fun k => by rw [h.linkPort k])
    (eventsBounded_appendAll s hs es)

theorem Touches.eventsBounded {bs : List Block} {s t : State} (h : Touches bs s t)
    (hs : EventsBounded s) : EventsBounded t := h.elim fun _ k => k.eventsBounded hs

/-- Removing passed entries keeps the Event Queue in bounds (R173). -/
theorem eventsBounded_removePassed (h : EventsBounded s) : EventsBounded s.removePassed := by
  obtain ⟨hl, hu⟩ := h
  have ha := hu .a
  have hb := hu .b
  have len : s.removePassed.events.entries.length =
      s.events.entries.length - (s.events.entries.length
        - entriesNeeded s.events.entries.length s.linkA.unread s.linkB.unread) := List.length_drop
  refine ⟨by omega, fun k n hn => ?_⟩
  have hk : (s.link k).unread = some n := by cases k <;> exact hn
  have := hu k n hk
  have hne : n ≤ entriesNeeded s.events.entries.length s.linkA.unread s.linkB.unread := by
    cases k
    · change s.linkA.unread = some n at hk
      rw [hk]
      cases s.linkB.unread <;> simp only [entriesNeeded] <;> omega
    · change s.linkB.unread = some n at hk
      rw [hk]
      cases s.linkA.unread <;> simp only [entriesNeeded] <;> omega
  omega

end

end Sys2Proof.Machine
end

