-- ==== Sys2Proof/Laws/Pumps.lean ====
section
/-! SUPPORT. The Pump Sequencer's and the Load Monitor's operations change pumps, stages, rotation and the
load alone, with the reports named; `bs` is any list of blocks that holds those they change. -/

namespace Sys2Proof.Machine

section
variable {bs : List Block} (hp : Block.pumps ∈ bs) (hl : Block.load ∈ bs) (s : State) (p : PumpId)
include hp

theorem changes_prune : Changes bs [] s (prune p s) := changes_modPump s hp p _

theorem changes_pruneAll : Changes bs [] s (pruneAll s) :=
  Changes.foldl (fun s p => changes_prune hp s p) _ s

theorem changes_leaveRotation : Changes bs [] s (leaveRotation p s) := changes_setRotation s hp _

theorem changes_rotateToTail : Changes bs [] s (rotateToTail p s) := by
  unfold rotateToTail
  split
  · exact changes_setRotation s hp _
  · exact Changes.refl bs s

theorem changes_joinRotation : Changes bs [] s (joinRotation p s) := by
  unfold joinRotation
  split
  · exact changes_setRotation s hp _
  · exact Changes.refl bs s

theorem changes_enterResting : Changes bs [] s (enterResting p s) := changes_modPump s hp p _

theorem changes_giveUpStage : Changes bs [] s (giveUpStage p s) := by
  unfold giveUpStage
  split
  · exact Changes.refl bs s
  · exact changes_modStage s hp _ _

theorem changes_assignStage (k : StageId) : Changes bs [] s (assignStage s k) := by
  unfold assignStage
  split
  · split
    · exact changes_modStage s hp _ _
    · exact Changes.refl bs s
  · exact Changes.refl bs s

theorem changes_assignStages : Changes bs [] s (assignStages s) :=
  Changes.foldl (fun s k => changes_assignStage hp s k) _ s

theorem changes_callStage (b : Basis) (k : StageId) : Changes bs [] s (callStage b s k) :=
  changes_modStage s hp _ _

theorem changes_latchStage (k : StageId) : Changes bs [] s (latchStage s k) := by
  unfold latchStage
  split
  · exact changes_callStage hp s _ k
  · exact Changes.refl bs s

theorem changes_latchByFloats : Changes bs [] s (latchByFloats s) := by
  unfold latchByFloats
  split
  · exact Changes.foldl (fun s k => changes_latchStage hp s k) _ s
  · split
    · exact changes_latchStage hp s 0
    · exact Changes.refl bs s

include hl
omit hp in
theorem changes_setQueue (q : List QueueEntry) : Changes bs [] s (setQueue q s) :=
  changes_modLoad s hl _

omit hp in
theorem changes_withdrawEntry : Changes bs [] s (withdrawEntry p s) := changes_setQueue hl s _

theorem changes_enterQueue : Changes bs [] s (enterQueue p s) :=
  (changes_setQueue hl s _).quiet (changes_modPump _ hp p _)

omit hp in
theorem changes_leaveRun : Changes bs [] s (leaveRun p s) := by
  unfold leaveRun
  split
  · exact changes_modLoad s hl _
  · exact Changes.refl bs s

theorem changes_enterStopping (c : StopCause) : Changes bs [] s (enterStopping p c s) := by
  have h := (changes_leaveRun hl s p).quiet (changes_modPump _ hp p fun x =>
    { x with state := .stopping, stopCause := c, timer := .running (Param.stopProof s.prof p) })
  unfold enterStopping
  dsimp only
  split
  · exact h
  · exact h.quiet (changes_enterResting hp _ p)

theorem changes_enterIdle : Changes bs [] s (enterIdle p s) :=
  (changes_leaveRun hl s p).quiet (changes_modPump _ hp p _)

/-- Entry to FAULTED reports PUMP_FAULT and nothing else. -/
theorem changes_enterFaulted (c : PumpFaultCause) :
    Changes bs [(.pumpFault, p.val + 1, c.code)] s (enterFaulted p c s) := by
  have h := (changes_leaveRun hl s p).quiet ((changes_withdrawEntry hl _ p).quiet
    ((changes_giveUpStage hp _ p).quiet (changes_leaveRotation hp _ p)))
  exact h.quiet ((changes_modPump _ hp p _).quiet (changes_append _ _ _ _))

theorem changes_queuedToIdle : Changes bs [] s (queuedToIdle p s) :=
  (changes_withdrawEntry hl s p).quiet (changes_enterIdle hp hl _ p)

theorem changes_withdrawCall : Changes bs [] s (withdrawCall p s) := by
  have h := changes_modPump s hp p fun x => { x with requeue := false }
  unfold withdrawCall
  dsimp only
  split
  · exact h.quiet (changes_queuedToIdle hp hl _ p)
  · split
    · exact h
    · exact h.quiet (changes_enterStopping hp hl _ p _)
  · exact h

theorem changes_dropUnstartable : Changes bs [] s (dropUnstartable s p) := by
  unfold dropUnstartable
  split
  · exact changes_queuedToIdle hp hl s p
  · exact Changes.refl bs s

theorem changes_giveUpIfFull : Changes bs [] s (giveUpIfFull s p) := by
  unfold giveUpIfFull
  split
  · exact (changes_giveUpStage hp s p).quiet (changes_withdrawCall hp hl _ p)
  · exact Changes.refl bs s

theorem changes_enterWaiting : Changes bs [] s (enterWaiting s) :=
  Changes.foldl (fun s p => changes_enterQueue hp hl s p) _ s

/-- What the Pump Sequencer judges again changes no other block and reports nothing. -/
theorem changes_settlePumps : Changes bs [] s (settlePumps s) := by
  have h := (changes_pruneAll hp s).quiet
    (Changes.foldl (fun s p => changes_dropUnstartable hp hl s p) allPumps _)
  exact h.quiet ((Changes.foldl (fun s p => changes_giveUpIfFull hp hl s p) allPumps _).quiet
    ((changes_assignStages hp _).quiet (changes_enterWaiting hp hl _)))

theorem changes_releaseStage (k : StageId) : Changes bs [] s (releaseStage k s) := by
  have h := changes_modStage s hp k fun _ => StageCall.none
  unfold releaseStage
  dsimp only
  split
  · exact h
  · split
    · exact h.quiet ((changes_rotateToTail hp _ _).quiet (changes_withdrawCall hp hl _ _))
    · exact h.quiet (changes_withdrawCall hp hl _ _)

theorem changes_releaseIfCalled (k : StageId) : Changes bs [] s (releaseIfCalled s k) := by
  unfold releaseIfCalled
  split
  · exact changes_releaseStage hp hl s k
  · exact Changes.refl bs s

theorem changes_levelEvaluation : Changes bs [] s (levelEvaluation s) :=
  (Changes.foldl (fun s k => changes_releaseIfCalled hp hl s k) _ s).quiet
    ((Changes.foldl (fun s k => changes_callStage hp s .level k) _ _).quiet
      (changes_settlePumps hp hl _))

theorem changes_floatEvaluation (fell : Bool) : Changes bs [] s (floatEvaluation fell s) := by
  unfold floatEvaluation
  split
  · exact (Changes.foldl (fun s k => changes_releaseIfCalled hp hl s k) _ s).quiet
      (changes_settlePumps hp hl _)
  · exact (changes_latchByFloats hp s).quiet (changes_settlePumps hp hl _)

theorem changes_enterFloatMode : Changes bs [] s (enterFloatMode s) := by
  have keep (s : State) (k : StageId) : Changes bs []
      s (if (s.stage k).called then callStage .float s k else s) := by
    split
    · exact changes_callStage hp s _ k
    · exact Changes.refl bs s
  have h : Changes bs [] s
      (if s.level (.float .stop) then
        allStages.foldl (fun s k => if (s.stage k).called then callStage .float s k else s) s
      else stagesDown.foldl releaseIfCalled s) := by
    split
    · exact Changes.foldl keep _ s
    · exact Changes.foldl (fun s k => changes_releaseIfCalled hp hl s k) _ s
  exact h.quiet ((changes_latchByFloats hp _).quiet (changes_settlePumps hp hl _))

theorem changes_pumpsOnSump (old : SumpSource) : Changes bs [] s (pumpsOnSump old s) := by
  unfold pumpsOnSump
  split
  · exact Changes.refl bs s
  · split
    · exact changes_levelEvaluation hp hl s
    · split
      · exact changes_enterFloatMode hp hl s
      · exact Changes.refl bs s

/-! ## Inputs -/

theorem changes_runProvenActive : Changes bs [] s (runProvenActive p s) := by
  unfold runProvenActive
  split
  · exact (changes_modPump s hp p _).quiet ((changes_modLoad _ hl _).quiet (changes_settlePumps hp hl _))
  · exact (changes_withdrawEntry hl s p).quiet
      ((changes_enterStopping hp hl _ p _).quiet (changes_settlePumps hp hl _))
  · exact (changes_withdrawEntry hl s p).quiet
      ((changes_enterStopping hp hl _ p _).quiet (changes_settlePumps hp hl _))
  · exact (changes_withdrawEntry hl s p).quiet
      ((changes_enterStopping hp hl _ p _).quiet (changes_settlePumps hp hl _))
  all_goals exact Changes.refl bs s

/-- RUN_PROVEN becoming inactive reports PUMP_FAULT where a RUNNING pump has lost it, and nothing else. -/
theorem touches_runProvenInactive : Touches bs s (runProvenInactive p s) := by
  unfold runProvenInactive
  split
  · split
    · exact Touches.refl bs s
    · exact ((changes_enterFaulted hp hl s p _).thenQuiet (changes_settlePumps hp hl _)).touches
  · exact ((changes_enterResting hp s p).quiet (changes_settlePumps hp hl _)).touches
  · exact (changes_settlePumps hp hl s).touches
  all_goals exact Touches.refl bs s

theorem touches_trippedActive : Touches bs s (trippedActive p s) := by
  unfold trippedActive
  split
  · exact ((changes_enterFaulted hp hl s p _).thenQuiet (changes_settlePumps hp hl _)).touches
  · exact Touches.refl bs s

theorem changes_sealWarningActive : Changes bs [] s (sealWarningActive p s) := by
  unfold sealWarningActive
  split
  · exact (changes_rotateToTail hp s p).quiet (changes_settlePumps hp hl _)
  · exact Changes.refl bs s

theorem changes_stopDry : Changes bs [] s (stopDry s p) := by
  unfold stopDry
  split
  · exact changes_enterStopping hp hl s p _
  · split
    · exact changes_queuedToIdle hp hl s p
    · exact Changes.refl bs s

theorem changes_pumpsOnFloat (f : FloatId) : Changes bs [] s (pumpsOnFloat f s) := by
  have h : Changes bs [] s (if f = .dry ∧ !s.level (.float .dry) then dryProtection s else s) := by
    split
    · exact Changes.foldl (fun s p => changes_stopDry hp hl s p) _ s
    · exact Changes.refl bs s
  unfold pumpsOnFloat
  dsimp only
  generalize (if f = .dry ∧ !s.level (.float .dry) then dryProtection s else s) = x at h ⊢
  split
  · exact h.quiet (changes_floatEvaluation hp hl x _)
  · exact h.quiet (changes_settlePumps hp hl x)

theorem changes_loseSupply : Changes bs [] s (loseSupply s p) := by
  unfold loseSupply
  split
  · exact (changes_enterIdle hp hl s p).quiet (changes_modPump _ hp p _)
  · exact Changes.refl bs s

/-! ## Authority, demand, clear, permit, commit -/

theorem changes_requeueOnAuthority : Changes bs [] s (requeueOnAuthority p s) := by
  have h := changes_withdrawEntry hl s p
  unfold requeueOnAuthority
  dsimp only
  split
  · exact h.quiet (changes_enterQueue hp hl _ p)
  · exact h.quiet (changes_enterIdle hp hl _ p)

theorem changes_pumpAuthorityChanged (old : Authority) :
    Changes bs [] s (pumpAuthorityChanged p old s) := by
  have h1 : Changes bs [] s (if old = .auto then leaveRotation p (giveUpStage p s) else s) := by
    split
    · exact (changes_giveUpStage hp s p).quiet (changes_leaveRotation hp _ p)
    · exact Changes.refl bs s
  have h2 := h1.quiet ((changes_joinRotation hp _ p).quiet
    ((changes_pruneAll hp _).quiet (changes_assignStages hp _)))
  unfold pumpAuthorityChanged
  dsimp only
  generalize assignStages _ = x at h2 ⊢
  have h3 := h2.quiet (show Changes bs [] x
      (if x.call p = .none then x.modPump p fun y => { y with requeue := false } else x) by
    split
    · exact changes_modPump x hp p _
    · exact Changes.refl bs x)
  generalize (if x.call p = .none then _ else x) = y at h3 ⊢
  refine h3.quiet (Changes.quiet ?_ (changes_settlePumps hp hl _))
  split
  · exact changes_enterStopping hp hl y p _
  · split
    · exact changes_requeueOnAuthority hp hl y p
    · split
      · exact changes_withdrawCall hp hl y p
      · exact Changes.refl bs y
    · exact Changes.refl bs y

theorem changes_pumpKeyMoved : Changes bs [] s (pumpKeyMoved p s) := by
  unfold pumpKeyMoved
  dsimp only
  split
  · refine (changes_modPump s hp p fun x => { x with requeue := false }).quiet ?_
    generalize s.modPump p _ = x
    refine Changes.quiet ?_ (changes_settlePumps hp hl _)
    split
    · exact changes_enterStopping hp hl x p _
    · exact changes_withdrawCall hp hl x p
  · exact changes_settlePumps hp hl s

theorem changes_pumpDemandStored : Changes bs [] s (pumpDemandStored p s) := by
  unfold pumpDemandStored
  split
  · exact (changes_withdrawCall hp hl s p).quiet (changes_settlePumps hp hl _)
  · exact changes_settlePumps hp hl s

theorem changes_clearPump : Changes bs [] s (clearPump p s) := by
  unfold clearPump
  split
  · refine (changes_modPump s hp p fun x => { x with faultCause := .none }).quiet ?_
    dsimp only
    generalize s.modPump p _ = x
    refine Changes.quiet (t := if x.runProven p then enterStopping p .uncommanded x else enterResting p x)
      ?_ ((changes_joinRotation hp _ p).quiet (changes_settlePumps hp hl _))
    split
    · exact changes_enterStopping hp hl x p _
    · exact changes_enterResting hp x p
  · exact Changes.refl bs s

/-- A withdrawn permit reports PUMP_START_ABORTED for a STARTING pump, nothing for a RUNNING one. -/
theorem touches_withdrawPermit : Touches bs s (withdrawPermit p s) := by
  unfold withdrawPermit
  split
  · exact ((changes_modPump s hp p _).quiet ((changes_enterStopping hp hl _ p _).quiet
      (changes_append _ _ _ _))).touches
  · exact (changes_enterStopping hp hl s p _).touches
  · exact Touches.refl bs s

theorem changes_grantPump : Changes bs [] s (grantPump p s) :=
  (changes_withdrawEntry hl s p).quiet ((changes_modPump _ hp p _).quiet (changes_modLoad _ hl _))

theorem changes_commitInstalled (old : Vector Word 256) : Changes bs [] s (commitInstalled old s p) := by
  unfold commitInstalled
  split
  · have h := (changes_giveUpStage hp s p).quiet ((changes_leaveRotation hp _ p).quiet
      (changes_modPump _ hp p fun x => { x with requeue := false }))
    dsimp only
    split
    · exact h.quiet (changes_enterStopping hp hl _ p _)
    · split
      · exact h.quiet (changes_queuedToIdle hp hl _ p)
      · exact h
  · split
    · exact changes_joinRotation hp s p
    · exact Changes.refl bs s

theorem changes_commitStage (k : StageId) : Changes bs [] s (commitStage s k) := by
  unfold commitStage
  split
  · exact changes_releaseIfCalled hp hl s k
  · exact Changes.refl bs s

theorem changes_pumpsOnCommit (old : Vector Word 256) : Changes bs [] s (pumpsOnCommit old s) := by
  have h : Changes bs [] s (allPumps.foldl commitHistory s) :=
    Changes.foldl (fun s p => changes_modPump s hp p _) _ s
  exact h.quiet ((Changes.foldl (fun s p => changes_commitInstalled hp hl s p old) _ _).quiet
    ((Changes.foldl (fun s k => changes_commitStage hp hl s k) _ _).quiet (changes_settlePumps hp hl _)))

/-! ## The Load Monitor -/

theorem touches_supplyChanged : Touches bs s (supplyChanged s) := by
  unfold supplyChanged
  dsimp only
  split
  · exact Touches.refl bs s
  · have h := (changes_modLoad s hl fun x => { x with supply := deriveSupply s, evalDue := true }).quiet
      (changes_append _ .supplyChange 0 (deriveSupply s).code)
    split
    · exact (h.thenQuiet ((changes_modLoad _ hl _).quiet
        ((Changes.foldl (fun s p => changes_loseSupply hp hl s p) allPumps _).quiet
          (changes_settlePumps hp hl _)))).touches
    · split
      · exact (h.thenQuiet (changes_modLoad _ hl _)).touches
      · exact h.touches

omit hp in
theorem changes_computeLoads (hg : Block.lighting ∈ bs) : Changes bs [] s (computeLoads s) :=
  (changes_modLoad s hl _).quiet ((Changes.foldl (fun s (x : GroupId × Nat) => changes_modGroup s hg x.1 _) _ _).quiet
    (changes_modLoad _ hl _))

theorem touches_settleLoads (hg : Block.lighting ∈ bs) (n : Nat) : Touches bs s (settleLoads n s) := by
  induction n generalizing s with
  | zero => exact (changes_computeLoads hl s hg).touches
  | succ n ih =>
    have h := (changes_computeLoads hl s hg).touches
    unfold settleLoads
    dsimp only
    split
    · exact h
    · exact h.trans ((touches_withdrawPermit hp hl _ _).trans (ih _))

theorem changes_grantHead : Changes bs [] s (grantHead s) := by
  unfold grantHead
  split
  · exact Changes.refl bs s
  · split
    · exact changes_grantPump hp hl s _
    · exact Changes.refl bs s

omit hp in
theorem changes_supervise : Changes bs [] s (supervise s) := by
  unfold supervise
  dsimp only
  split
  · exact changes_modLoad s hl _
  · split
    · exact Changes.refl bs s
    · exact changes_modLoad s hl _

/-- Step 1 of a load evaluation changes pumps and load, and reports nothing. -/
theorem changes_openBudget : Changes bs [] s (openBudget s) :=
  (changes_modLoad s hl _).quiet (changes_settlePumps hp hl _)

/-- A load evaluation changes pumps, load and lamp groups, and nothing else. -/
theorem touches_loadEvaluation (hg : Block.lighting ∈ bs) : Touches bs s (loadEvaluation s) := by
  have h := (changes_openBudget hp hl s).touches.trans (touches_settleLoads hp hl (openBudget s) hg 4)
  unfold loadEvaluation
  generalize settleLoads 4 (openBudget s) = u at h ⊢
  exact h.trans ((changes_modLoad u hl _).quiet
    ((changes_grantHead hp hl _).quiet (changes_supervise hl _))).touches

/-- The first load evaluation changes what any other does. -/
theorem touches_firstEvaluation (hg : Block.lighting ∈ bs) : Touches bs s (firstEvaluation s) :=
  (touches_settleLoads hp hl s hg 4).trans
    ((changes_modLoad _ hl _).quiet (changes_settlePumps hp hl _)).touches

end

end Sys2Proof.Machine
end

