-- ==== Sys2Proof/Laws/Plant.lean ====
section
/-! SUPPORT. Which blocks the Measurement Unit, the Penstock Controller, the Lighting Modulator and the
Authority Table change, and which a change of an input, a sample, an authority or a clear can reach. -/

namespace Sys2Proof.Machine

/-! ## Measurement -/

section
variable {bs : List Block} (hc : Block.channels ∈ bs) (s : State) (c : ChannelId)
include hc

theorem changes_captureRise : Changes bs [] s (captureRise c s) := changes_modChannel s hc c _

theorem changes_captureFall : Changes bs [] s (captureFall c s) := changes_modChannel s hc c _

theorem changes_failChannel (f : FailCause) :
    Changes bs [(.channelFailed, channelNumber c, f.code)] s (failChannel c f s) :=
  (changes_modChannel s hc c _).quiet (changes_append _ _ _ _)

theorem touches_validSample (n : Nat) : Touches bs s (validSample c n s) := by
  unfold validSample
  dsimp only
  split
  · exact Touches.refl bs s
  · exact (changes_modChannel s hc c _).touches
  · exact (changes_modChannel s hc c _).touches
  · split
    · exact (changes_modChannel s hc c _).touches
    · exact ((changes_modChannel s hc c _).quiet (changes_append _ _ _ _)).touches

theorem touches_invalidSample : Touches bs s (invalidSample c s) := by
  unfold invalidSample
  dsimp only
  split
  · exact Touches.refl bs s
  · exact (changes_modChannel s hc c _).touches
  all_goals
    split
    · exact (changes_modChannel s hc c _).touches
    · exact (changes_failChannel hc s c _).touches

theorem touches_processWidth (w : Nat) : Touches bs s (processWidth c w s) := by
  unfold processWidth
  split
  · exact touches_validSample hc s c _
  · exact touches_invalidSample hc s c

theorem changes_channelsOnCommit (old : Vector Word 256) : Changes bs [] s (channelsOnCommit old s) :=
  Changes.foldl (fun x c => changes_modChannel x hc c _) _ s

end

section
variable {bs : List Block} (hm : Block.sump ∈ bs) (s : State)
include hm

omit hm in
theorem touches_appendFloatMode (old new : SumpSource) : Touches bs s (appendFloatMode old new s) := by
  unfold appendFloatMode
  split
  · exact touches_append s _ _ _
  · split
    · exact touches_append s _ _ _
    · exact Touches.refl bs s

theorem touches_judgeDisagreement : Touches bs s (judgeDisagreement s) := by
  have h := changes_modSump s hm fun x => { x with disagreement := disagrees s }
  unfold judgeDisagreement
  dsimp only
  split
  · exact (h.quiet (changes_append _ _ _ _)).touches
  · exact h.touches

theorem touches_updateSump : Touches bs s (updateSump s) :=
  (changes_modSump s hm _).touches.trans ((touches_appendFloatMode _ _ _).trans
    ((touches_judgeDisagreement hm _).trans (changes_modSump _ hm _).touches))

theorem changes_windowExpired : Changes bs [] s (windowExpired s) := by
  unfold windowExpired
  split
  · exact changes_modSump s hm _
  · exact Changes.refl bs s

end

/-! ## Penstock -/

section
variable {bs : List Block} (hg : Block.gates ∈ bs) (s : State)
include hg

theorem touches_commandTarget : Touches bs s (commandTarget s) := touches_commandDrive hg s .penstock _

theorem touches_clearPenstock : Touches bs s (clearPenstock s) := by
  have h := (changes_clearDrive hg s .penstock).touches
  unfold clearPenstock
  dsimp only
  split
  · exact h.trans (touches_commandTarget hg _)
  · exact h

variable (hp : Block.penstock ∈ bs)
include hp

theorem touches_setTarget (t : TargetKind) : Touches bs s (setTarget t s) :=
  (changes_modPenstock s hp _).touches.trans (touches_commandTarget hg _)

theorem touches_acceptPosition (p : Nat) : Touches bs s (acceptPosition p s) :=
  (changes_modPenstock s hp _).touches.trans (touches_setTarget hg _ hp _)

theorem touches_penstockAuthorityChanged : Touches bs s (penstockAuthorityChanged s) := by
  unfold penstockAuthorityChanged
  split
  · exact touches_setTarget hg s hp _
  · exact Touches.refl bs s
  · exact touches_setTarget hg s hp _

variable (ha : Block.authority ∈ bs)
include ha

omit hg hp in
theorem changes_writeActionClosed : Changes bs [] s (writeActionClosed s) := by
  unfold writeActionClosed
  split
  · exact changes_modDemands s ha _
  all_goals exact Changes.refl bs s

theorem touches_overrideTarget (k : Link) : Touches bs s (overrideTarget k s) :=
  ((changes_writeActionClosed s ha).touches.trans (touches_setTarget hg _ hp _)).trans
    (touches_append _ _ _ _)

theorem touches_targetAtEvaluation (was : Bool) : Touches bs s (targetAtEvaluation was s) := by
  unfold targetAtEvaluation
  split
  · split
    · exact Touches.refl bs s
    · exact touches_setTarget hg s hp _
  · split
    · exact touches_overrideTarget hg s hp ha _
    · exact Touches.refl bs s
  · exact Touches.refl bs s

/-- A penstock evaluation changes the gates, the controller and, where it overrides a link, the demand. -/
theorem touches_penstockEvaluation (e : Bool) : Touches bs s (penstockEvaluation e s) :=
  ((changes_modPenstock s hp _).quiet (changes_modPenstock _ hp _)).touches.trans
    (touches_targetAtEvaluation hg _ hp ha _)

theorem touches_openDelayExpired : Touches bs s (openDelayExpired s) := by
  unfold openDelayExpired
  split
  · exact (changes_modPenstock s hp _).touches.trans (touches_penstockEvaluation hg _ hp ha _)
  · exact Touches.refl bs s

theorem touches_penstockFollow (before : State) : Touches bs s (penstockFollow before s) := by
  unfold penstockFollow
  split
  · exact (changes_writeActionClosed s ha).touches.trans (touches_setTarget hg _ hp _)
  · split
    · exact touches_commandTarget hg s
    · exact Touches.refl bs s

theorem touches_edgeAccepted (e : EncoderChannel) : Touches bs s (edgeAccepted e s) :=
  (touches_acceptEdge hg s e).trans (touches_penstockFollow hg _ hp ha s)

theorem touches_edgeDoubled : Touches bs s (edgeDoubled s) :=
  (touches_doubleEdge hg s).trans (touches_penstockFollow hg _ hp ha s)

theorem touches_driveStallExpired : Touches bs s (driveStallExpired s) :=
  (touches_stallExpired hg s).trans (touches_penstockFollow hg _ hp ha s)

end

/-! ## Lighting -/

section
variable {bs : List Block} (hi : Block.lighting ∈ bs) (hl : Block.load ∈ bs) (s : State) (g : GroupId)
include hl

theorem changes_reportLamps : Changes bs [] s (reportLamps s) := changes_modLoad s hl _

include hi

theorem changes_reformGroup : Changes bs [] s (reformGroup s g) := by
  have h := changes_modGroup s hi g fun x =>
    { x with requested := (requestOf s g).1, source := (requestOf s g).2 }
  unfold reformGroup
  dsimp only
  split
  · exact h
  · exact h.quiet (changes_reportLamps hl _)

theorem changes_reformRequests : Changes bs [] s (reformRequests s) :=
  Changes.foldl (fun x g => changes_reformGroup hi hl x g) _ s

/-- A change of the Current Stage reports STAGE_CHANGE. -/
theorem changes_changeStage (n : Nat) : Changes bs [(.stageChange, 0, n)] s (changeStage n s) :=
  ((changes_modLighting s hi _).quiet (changes_append _ _ _ _)).thenQuiet
    (changes_reformRequests hi hl _)

theorem touches_luminanceUpdate : Touches bs s (luminanceUpdate s) := by
  have h : Touches bs s (if Param.installedStages s.prof < s.lighting.stage then
      changeStage (Param.installedStages s.prof) s else s) := by
    split
    · exact (changes_changeStage hi hl s _).touches
    · exact Touches.refl bs s
  unfold luminanceUpdate
  dsimp only
  generalize (if Param.installedStages s.prof < s.lighting.stage then
      changeStage (Param.installedStages s.prof) s else s) = x at h ⊢
  split
  · have k := h.trans (changes_modLighting x hi fun y =>
      { y with stageLum := x.channels.luminance.reported }).touches
    generalize x.modLighting _ = y at k ⊢
    split
    · exact k.trans (changes_changeStage hi hl y _).touches
    · split
      · exact k.trans (changes_changeStage hi hl y _).touches
      · exact k
  · split
    · exact h.trans (changes_changeStage hi hl x _).touches
    · exact h

theorem touches_lightingDwellExpired : Touches bs s (lightingDwellExpired s) := by
  unfold lightingDwellExpired
  split
  · exact (changes_modLighting s hi _).touches.trans (touches_luminanceUpdate hi hl _)
  · exact Touches.refl bs s

/-- Entry to driver fault reports LAMP_FAULT. -/
theorem touches_enterDriverFault : Touches bs s (enterDriverFault g s) :=
  ((changes_modGroup s hi g _).quiet (changes_append _ _ _ _)).touches.trans
    (changes_reportLamps hl _).touches

theorem touches_driverFaultActive : Touches bs s (driverFaultActive g s) := by
  unfold driverFaultActive
  split
  · exact Touches.refl bs s
  · exact touches_enterDriverFault hi hl s g

theorem touches_endDriverFault : Touches bs s (endDriverFault g s) := by
  have h := ((changes_modGroup s hi g fun x => { x with fault := .none }).quiet
    (changes_reportLamps hl _)).touches
  unfold endDriverFault
  dsimp only
  split
  · exact h.trans (touches_enterDriverFault hi hl _ g)
  · exact h

theorem touches_clearLighting : Touches bs s (clearLighting s) := by
  refine Touches.foldl (fun x g => ?_) _ s
  unfold clearGroup
  split
  · exact touches_endDriverFault hi hl x g
  · exact Touches.refl bs x

theorem touches_lightingBoundary : Touches bs s (lightingBoundary s) := by
  refine (changes_modLighting s hi _).touches.trans (Touches.foldl (fun x g => ?_) _ _)
  have h := (changes_modGroup x hi g fun y => { y with offset := Param.phaseOffset x.prof g }).touches
  unfold groupBoundary
  dsimp only
  generalize x.modGroup g _ = y at h ⊢
  split
  · have k := h.trans (changes_modGroup y hi g fun z => { z with applied := 0 }).touches
    split
    · exact k.trans (touches_endDriverFault hi hl _ g)
    · exact k
  · exact h.trans (changes_modGroup y hi g _).touches

theorem touches_lightingOnCommit : Touches bs s (lightingOnCommit s) :=
  (touches_luminanceUpdate hi hl s).trans (changes_reformRequests hi hl _).touches

end

/-! ## Authority -/

section
variable {bs : List Block} (ha : Block.authority ∈ bs) (s : State) (u : UnitId)

include ha in
theorem changes_setAuthority (a : Authority) : Changes bs [] s (setAuthority u a s) :=
  changes_modAuthority s ha _

include ha in
theorem changes_neutralDemand : Changes bs [] s (neutralDemand u s) := changes_modDemands s ha _

include ha in
theorem changes_countClear : Changes bs [] s (countClear u s) := changes_modAuthority s ha _

/-- A delivered change of authority changes the unit's blocks alone. -/
theorem touches_deliverAuthority (old : Authority) : Touches (unitBlocks u) s (deliverAuthority u old s) := by
  rcases u with p | _ | _ | _
  · exact (changes_pumpAuthorityChanged (by simp [unitBlocks]) (by simp [unitBlocks]) s p old).touches
  · exact touches_penstockAuthorityChanged (by simp [unitBlocks]) s (by simp [unitBlocks])
  · exact touches_judgeTrigger (by simp [unitBlocks]) s (by simp [unitBlocks]) (by simp [unitBlocks])
  · exact (changes_reformRequests (by simp [unitBlocks]) (by simp [unitBlocks]) s).touches

theorem unitBlocks_authority : Block.authority ∈ unitBlocks u := by cases u <;> simp [unitBlocks]

/-- A change of authority changes the unit's blocks and the Authority Table alone; AUTHORITY_CHANGE is its
first report (R148). -/
theorem changes_changeAuthority (a : Authority) (h : s.authorityOf u ≠ a) :
    ∃ es, Changes (unitBlocks u) ((.authorityChange, u.index, a.code) :: es) s (changeAuthority u a s) := by
  obtain ⟨es, k⟩ := touches_deliverAuthority
    ((neutralDemand u (setAuthority u a s)).append .authorityChange u.index a.code) u (s.authorityOf u)
  refine ⟨es, ?_⟩
  unfold changeAuthority
  rw [if_neg h]
  have m := unitBlocks_authority u
  exact ((changes_setAuthority m s u a).quiet ((changes_neutralDemand m _ u).quiet
    (changes_append _ _ _ _))).trans k

theorem touches_changeAuthority (a : Authority) : Touches (unitBlocks u) s (changeAuthority u a s) := by
  by_cases h : s.authorityOf u = a
  · unfold changeAuthority
    rw [if_pos h]
    exact Touches.refl _ s
  · exact (changes_changeAuthority s u a h).elim fun _ k => k.touches

/-- An accepted clear changes the unit's blocks and its count alone (R156). -/
theorem touches_acceptClear : Touches (unitBlocks u) s (acceptClear u s) := by
  have h := (changes_countClear (unitBlocks_authority u) s u).touches
  unfold acceptClear
  dsimp only
  generalize countClear u s = x at h ⊢
  rcases u with p | _ | _ | _ <;> dsimp only
  · exact h.trans (changes_clearPump (by simp [unitBlocks]) (by simp [unitBlocks]) x p).touches
  · exact h.trans (touches_clearPenstock (by simp [unitBlocks]) x)
  · exact h.trans
      (touches_clearRoad (by simp [unitBlocks]) x (by simp [unitBlocks]) (by simp [unitBlocks]))
  · exact h.trans (touches_clearLighting (by simp [unitBlocks]) (by simp [unitBlocks]) x)

/-- Every unit's blocks are plant blocks. -/
theorem unitBlocks_plant : unitBlocks u ⊆ plantBlocks := by
  cases u <;> simp [unitBlocks, plantBlocks]

theorem touches_returnUnits (k : Link) : Touches plantBlocks s (returnUnits k s) := by
  refine Touches.foldl (fun x u => ?_) _ s
  unfold returnUnit
  split
  · exact (touches_changeAuthority x u .auto).mono (unitBlocks_plant u)
  · exact Touches.refl _ x

theorem touches_keyChanged (before : State) : Touches (unitBlocks u) s (keyChanged u before s) := by
  unfold keyChanged
  split
  · split
    · split
      · split
        · exact Touches.refl _ s
        · exact (changes_pumpKeyMoved (by simp [unitBlocks]) (by simp [unitBlocks]) s _).touches
      all_goals exact Touches.refl _ s
    · exact touches_changeAuthority s u .hand
  · split
    · exact touches_changeAuthority s u .auto
    · exact Touches.refl _ s

theorem touches_faultReset : Touches plantBlocks s (faultReset s) := by
  refine Touches.foldl (fun x u => ?_) _ s
  unfold panelClear
  split
  · exact (touches_acceptClear x u).mono (unitBlocks_plant u)
  · exact (touches_acceptClear x u).mono (unitBlocks_plant u)
  · exact Touches.refl _ x

theorem touches_buttonChanged (b : PanelButton) : Touches plantBlocks s (buttonChanged b s) := by
  unfold buttonChanged
  dsimp only
  split
  · split
    · exact touches_panelClose (by decide) s (by decide) (by decide)
    · exact Touches.refl _ s
  · split
    · exact touches_panelReopen (by decide) s (by decide) (by decide)
    · exact Touches.refl _ s
  · split
    · exact touches_faultReset s
    · exact Touches.refl _ s
  · exact touches_lampTestChanged (by decide) s (by decide) (by decide)

theorem touches_authorityOnCommit (c : Bool) : Touches plantBlocks s (authorityOnCommit c s) := by
  unfold authorityOnCommit
  dsimp only
  split
  · refine Touches.foldl (fun x u => ?_) _ s
    split
    · exact (touches_changeAuthority x u .auto).mono (unitBlocks_plant u)
    all_goals exact Touches.refl _ x
  · exact Touches.refl _ s

end

/-! ## What an input or a sample reaches -/

section
variable (s : State)

theorem touches_limitInput (d : DriveId) (up : Bool) (before : State) :
    Touches plantBlocks s (limitInput d up before s) := by
  rcases d with b | _
  · exact touches_barrierLimitChanged (by decide) s b (by decide) (by decide) up
  · exact (touches_limitChanged (by decide) s .penstock up).trans
      (touches_penstockFollow (by decide) _ (by decide) (by decide) before)

/-- A change of an input's qualified level reaches plant blocks alone. -/
theorem touches_inputChanged (i : InputId) (before : State) :
    Touches plantBlocks s (inputChanged i before s) := by
  unfold inputChanged
  split
  · have h := (changes_pumpsOnFloat (bs := plantBlocks) (by decide) (by decide) s ‹_›).touches
    dsimp only
    split
    · exact h.trans (touches_closureOnFlood (by decide) _ (by decide) (by decide))
    · exact h
  · split
    · exact (changes_runProvenActive (by decide) (by decide) s _).touches
    · exact touches_runProvenInactive (by decide) (by decide) s _
  · split
    · exact touches_trippedActive (by decide) (by decide) s _
    · exact Touches.refl _ s
  · split
    · exact (changes_sealWarningActive (by decide) (by decide) s _).touches
    · exact Touches.refl _ s
  · exact touches_supplyChanged (by decide) (by decide) s
  · exact touches_supplyChanged (by decide) (by decide) s
  · split
    · exact touches_driverFaultActive (by decide) (by decide) s _
    · exact Touches.refl _ s
  · exact touches_limitInput s _ _ before
  · exact touches_limitInput s _ _ before
  · exact touches_barrierObstructionChanged (by decide) s _ (by decide) (by decide)
  · split
    · exact (touches_torqueActive (by decide) s).trans
        (touches_penstockFollow (by decide) _ (by decide) (by decide) before)
    · exact Touches.refl _ s
  · exact (touches_keyChanged s _ before).mono (unitBlocks_plant _)
  · exact (touches_keyChanged s _ before).mono (unitBlocks_plant _)
  · exact (touches_keyChanged s _ before).mono (unitBlocks_plant _)
  · exact (touches_keyChanged s _ before).mono (unitBlocks_plant _)
  · exact touches_buttonChanged s _

/-- A Sump Level update reaches the Sump Summary and plant blocks alone. -/
theorem touches_sumpUpdated : Touches (.sump :: plantBlocks) s (sumpUpdated s) :=
  (touches_updateSump (by decide) s).trans
    ((changes_pumpsOnSump (by decide) (by decide) _ _).touches.trans
      ((touches_penstockEvaluation (by decide) _ (by decide) (by decide) false).trans
        (touches_closureOnSump (by decide) _ (by decide) (by decide))))

/-- What the readers of a channel do reaches the Sump Summary and plant blocks alone. -/
theorem touches_channelChanged (c : ChannelId) (before : State) :
    Touches (.sump :: plantBlocks) s (channelChanged c before s) := by
  unfold channelChanged
  dsimp only
  split
  · exact touches_sumpUpdated s
  · exact touches_sumpUpdated s
  · exact touches_closureOnCarriageway (by decide) s (by decide) (by decide) _
  · exact touches_penstockEvaluation (by decide) s (by decide) (by decide) _
  · split
    · exact touches_luminanceUpdate (by decide) (by decide) s
    · exact Touches.refl _ s

theorem touches_channelReaders (before : State) :
    Touches (.sump :: plantBlocks) s (channelReaders before s) := by
  have h : Touches (.sump :: plantBlocks) s
      (if before.channels.sumpA.state ≠ s.channels.sumpA.state
        ∨ before.channels.sumpB.state ≠ s.channels.sumpB.state then sumpUpdated s else s) := by
    split
    · exact touches_sumpUpdated s
    · exact Touches.refl _ s
  unfold channelReaders
  dsimp only
  generalize (if before.channels.sumpA.state ≠ s.channels.sumpA.state
        ∨ before.channels.sumpB.state ≠ s.channels.sumpB.state then sumpUpdated s else s) = x at h ⊢
  split
  · exact h.trans (touches_closureOnCarriageway (by decide) x (by decide) (by decide) _)
  · exact h

/-- A commit event reaches the channels, the Sump Summary and plant blocks alone (R180). -/
theorem touches_deliverCommit (old : Vector Word 256) (site : Bool) :
    Touches (.channels :: .sump :: plantBlocks) s (deliverCommit old site s) := by
  have h := (changes_channelsOnCommit (bs := .channels :: .sump :: plantBlocks) (by decide) s old).touches
  have h2 := h.trans ((touches_channelReaders _ s).mono (cs := .channels :: .sump :: plantBlocks) (by simp))
  have h3 := h2.trans (changes_pumpsOnCommit (by decide) (by decide) _ old).touches
  have h4 := (h3.trans (changes_reportLamps (by decide) _).touches).trans
    (touches_lightingOnCommit (by decide) (by decide) _)
  have h5 := h4.trans (touches_penstockEvaluation (by decide) _ (by decide) (by decide) false)
  exact h5.trans ((touches_authorityOnCommit _ _).mono (by simp))

end

end Sys2Proof.Machine
end

