-- ==== Sys2Proof/Laws/Settle.lean ====
section
/-! SUPPORT. The Pump Sequencer's operations on one pump leave every other pump as it was, and `settlePumps`
moves only pumps that are IDLE or QUEUED. -/

namespace Sys2Proof.Machine

section
variable (s : State) (p q : PumpId)

/-! ## Operations that change no Pump Record -/

@[simp] theorem setQueue_pump (l : List QueueEntry) : (setQueue l s).pump q = s.pump q := rfl
@[simp] theorem withdrawEntry_pump : (withdrawEntry p s).pump q = s.pump q := rfl
@[simp] theorem leaveRotation_pump : (leaveRotation p s).pump q = s.pump q := rfl

@[simp] theorem leaveRun_pump : (leaveRun p s).pump q = s.pump q := by
  unfold leaveRun
  split <;> rfl

@[simp] theorem giveUpStage_pump : (giveUpStage p s).pump q = s.pump q := by
  unfold giveUpStage
  split <;> rfl

@[simp] theorem rotateToTail_pump : (rotateToTail p s).pump q = s.pump q := by
  unfold rotateToTail
  split <;> rfl

@[simp] theorem joinRotation_pump : (joinRotation p s).pump q = s.pump q := by
  unfold joinRotation
  split <;> rfl

@[simp] theorem assignStage_pump (k : StageId) : (assignStage s k).pump q = s.pump q := by
  unfold assignStage
  split
  · split <;> rfl
  · rfl

/-- A fold of operations that leave a pump alone leaves it alone. -/
theorem foldl_pump {α : Type} (f : State → α → State) (h : ∀ s a, (f s a).pump q = s.pump q)
    (l : List α) : (l.foldl f s).pump q = s.pump q := by
  induction l generalizing s with
  | nil => rfl
  | cons a l ih => exact (ih _).trans (h s a)

@[simp] theorem assignStages_pump : (assignStages s).pump q = s.pump q :=
  foldl_pump s q _ (fun s k => assignStage_pump s q k) _

/-! ## Operations that change one Pump Record -/

variable {p q}

theorem enterResting_pump_ne (h : q ≠ p) : (enterResting p s).pump q = s.pump q :=
  s.modPump_pump_ne _ h

theorem enterStopping_pump_ne (h : q ≠ p) (c : StopCause) :
    (enterStopping p c s).pump q = s.pump q := by
  unfold enterStopping
  dsimp only
  split
  · simp [State.modPump_pump, h]
  · simp [enterResting_pump_ne, State.modPump_pump, h]

theorem enterIdle_pump_ne (h : q ≠ p) : (enterIdle p s).pump q = s.pump q := by
  simp [enterIdle, State.modPump_pump, h]

theorem queuedToIdle_pump_ne (h : q ≠ p) : (queuedToIdle p s).pump q = s.pump q := by
  simp [queuedToIdle, enterIdle_pump_ne, h]

theorem enterQueue_pump_ne (h : q ≠ p) : (enterQueue p s).pump q = s.pump q := by
  simp [enterQueue, State.modPump_pump, h]

theorem enterFaulted_pump_ne (h : q ≠ p) (c : PumpFaultCause) :
    (enterFaulted p c s).pump q = s.pump q := by
  simp [enterFaulted, State.modPump_pump, h]

theorem withdrawCall_pump_ne (h : q ≠ p) : (withdrawCall p s).pump q = s.pump q := by
  have e := s.modPump_pump_ne (fun x => { x with requeue := false }) h
  unfold withdrawCall
  dsimp only
  split
  · rw [queuedToIdle_pump_ne _ h, e]
  · split
    · exact e
    · rw [enterStopping_pump_ne _ h, e]
  · exact e

/-! ## settlePumps -/

variable (p)

/-- Consulting every history prunes each pump's own (R48). -/
theorem pruneAll_pump : (pruneAll s).pump p =
    { s.pump p with history := pruneHistory s.stationClock (s.pump p).history } := by
  unfold pruneAll allPumps prune
  simp only [List.foldl_cons, List.foldl_nil, State.modPump_pump, State.modPump_stationClock]
  rcases p with ⟨_ | _ | _ | _ | n, h⟩
  · simp
  · simp
  · simp
  · simp
  · omega

theorem dropUnstartable_pump (h : (s.pump p).state ≠ .queued) (q : PumpId) :
    (dropUnstartable s q).pump p = s.pump p := by
  unfold dropUnstartable
  split
  · next c =>
    by_cases e : p = q
    · subst e
      simp [h] at c
    · exact queuedToIdle_pump_ne s e
  · rfl

theorem giveUpIfFull_pump (h : (s.pump p).state ≠ .idle) (q : PumpId) :
    (giveUpIfFull s q).pump p = s.pump p := by
  unfold giveUpIfFull
  split
  · next c =>
    by_cases e : p = q
    · subst e
      simp [h] at c
    · simp [withdrawCall_pump_ne _ e]
  · rfl

/-- Every pump that is entered together with others can enter QUEUED (R25). -/
theorem mem_queueOrder (h : p ∈ queueOrder s) : s.canQueue p = true := by
  have hf {r : PumpId} (hr : r ∈ (allPumps.filter s.canQueue).filter fun p => !(s.pump p).requeue) :
      s.canQueue r = true := by
    simp only [List.mem_filter] at hr
    exact hr.1.2
  unfold queueOrder at h
  simp only [List.mem_append, List.mem_filterMap] at h
  rcases h with (h | ⟨k, -, h⟩) | h
  · simp only [List.mem_filter] at h
    exact h.1.2
  · exact hf (List.mem_of_find?_eq_some h)
  · exact hf (List.mem_filter.mp h).1

theorem foldl_enterQueue_pump (l : List PumpId) (h : p ∉ l) :
    (l.foldl (fun s q => enterQueue q s) s).pump p = s.pump p := by
  induction l generalizing s with
  | nil => rfl
  | cons q l ih =>
    rw [List.foldl_cons, ih _ (fun c => h (List.mem_cons_of_mem q c))]
    exact enterQueue_pump_ne s (fun e => h (e ▸ List.mem_cons_self))

theorem enterWaiting_pump (h : (s.pump p).state ≠ .idle) : (enterWaiting s).pump p = s.pump p := by
  refine foldl_enterQueue_pump s p _ fun c => h ?_
  have := mem_queueOrder s p c
  simp only [State.canQueue, Bool.and_eq_true, beq_iff_eq] at this
  exact this.1.1.1.1

/-- A pump that is neither IDLE nor QUEUED passes through `settlePumps` with its history pruned. -/
theorem settlePumps_pump (hi : (s.pump p).state ≠ .idle) (hq : (s.pump p).state ≠ .queued) :
    (settlePumps s).pump p =
      { s.pump p with history := pruneHistory s.stationClock (s.pump p).history } := by
  have drop (l : List PumpId) (x : State) (hx : (x.pump p).state ≠ .queued) :
      (l.foldl dropUnstartable x).pump p = x.pump p := by
    induction l generalizing x with
    | nil => rfl
    | cons q l ih =>
      have e := dropUnstartable_pump x p hx q
      rw [List.foldl_cons, ih _ (by rw [e]; exact hx), e]
  have give (l : List PumpId) (x : State) (hx : (x.pump p).state ≠ .idle) :
      (l.foldl giveUpIfFull x).pump p = x.pump p := by
    induction l generalizing x with
    | nil => rfl
    | cons q l ih =>
      have e := giveUpIfFull_pump x p hx q
      rw [List.foldl_cons, ih _ (by rw [e]; exact hx), e]
  have e0 := pruneAll_pump s p
  have e1 := drop allPumps (pruneAll s) (by rw [e0]; exact hq)
  have e2 := give allPumps (allPumps.foldl dropUnstartable (pruneAll s)) (by rw [e1, e0]; exact hi)
  unfold settlePumps
  dsimp only
  rw [enterWaiting_pump _ p (by rw [assignStages_pump, e2, e1, e0]; exact hi), assignStages_pump, e2, e1, e0]

end

end Sys2Proof.Machine
end

