-- ==== Sys2Proof/Tests/Slice0.lean ====
section
/-! SUPPORT. The model's own tests: the checks of WellFormed, values that the spec's worked examples give, and
for each statement of Obligations.lean a state that meets its hypotheses. -/

namespace Sys2Proof.Tests

open Sys2Proof Sys2Proof.Machine

-- One theorem after another: side by side, the kernel's evaluations take too much memory.
set_option Elab.async false

/-! ## Well-formed commands -/

/-- A defined command byte makes no invalid frame (R162, 12.5). -/
theorem test_invalidFrame_refuses_status : (Instr.invalidFrame ⟨.a, .whole⟩ (some (0x01, 0))).wellFormed = false := by decide
/-- 0x00 is no defined command. -/
theorem test_invalidFrame_takes_undefined : (Instr.invalidFrame ⟨.a, .whole⟩ (some (0x00, 2))).wellFormed = true := by decide
/-- A command byte may be incomplete (R162). -/
theorem test_invalidFrame_takes_incomplete : (Instr.invalidFrame ⟨.a, .whole⟩ none).wellFormed = true := by decide
/-- No Flash Cycle has a position 2000 (5.2). -/
theorem test_checkPosition_refuses_2000 : (Instr.checkPosition 2000 0).wellFormed = false := by decide
/-- A TAKE of pump 1 is the row TAKE's word (12.3). -/
theorem test_otherWord_refuses_take : (Instr.readOnlyOrUnmappedWrite .a 0x140 1).wellFormed = false := by decide
/-- A read-only address is no other row's (12.1). -/
theorem test_otherWord_takes_readOnly : (Instr.readOnlyOrUnmappedWrite .a 0x000 1).wellFormed = true := by decide
/-- Words of 12.1 and 12.3: REOPEN, the CLEAR of LIGHTING, COMMIT, the last staging word. -/
theorem test_rowOfWord :
    rowOfWord .b 0x14E 2 = .reopen .b ∧ rowOfWord .a 0x15E 1 = .clear .a .lighting ∧
      rowOfWord .a 0x1A0 3 = .commit .a ∧ rowOfWord .b 0x3FF 9 = .stagingWord .b 255 9 := by decide
/-- The table gives no row bits. -/
theorem test_decode_none : decodeTableWord 16 1 = none := rfl

/-! ## Values of the spec's worked examples -/

/-- The check value of R176. -/
theorem test_crc : crcOfBytes [0x31, 0x32, 0x33, 0x34, 0x35, 0x36, 0x37, 0x38, 0x39] = 0x29B1 := by
  decide +kernel

/-- The calibration of chapter 1's example, in the words of SUMP_A. -/
def calibration : Vector Word 256 :=
  builtinWords |>.set 0x10 1000 |>.set 0x11 8000 |>.set 0x12 6000 |>.set 0x13 500 |>.set 0x14 500
    |>.set 0x15 9500 |>.set 0x16 2 |>.set 0x17 300

/-- Widths 4200, 4734 and 9200 (1.2, worked example). -/
theorem test_scale :
    scaleWidth calibration .sumpA 4200 = 2900 ∧ scaleWidth calibration .sumpA 4734 = 3300 ∧
      scaleWidth calibration .sumpA 9200 = 6500 := by decide
/-- The filter's steps of the same example. -/
theorem test_filter : filterStep 2 44800 2900 = 45200 ∧ filterStep 2 53120 3330 = 53160 := by decide
/-- The rate of rise, both ways (1.3, worked example). -/
theorem test_rate :
    rateOfRise 2975 2825 30 = 300 ∧ rateOfRise 2925 2825 45 = 133 ∧ rateOfRise 2825 2925 45 = -133 := by decide
/-- A STEADY channel of a 1000 ms cycle is checked at 750 (5, worked example). -/
theorem test_checkPosition : checkPositionOf .steady 1000 = some 750 := by decide
/-- The load of 150 W at 533 per mille, rounded up (3.6, worked example). -/
theorem test_loadAt : loadAt 150 533 = 80 ∧ loadAt 150 333 = 50 := by decide

/-- The state after one command. -/
def run (c : Instr) (s : State) : State :=
  match exec c s with
  | .next t => t
  | .fault f => nomatch f
  | .refused _ => s

/-- The state after a command that arrives when the timebase reads `n` (R3). -/
def runAt (n : Word) (c : Instr) (s : State) : State := run c { s with timebase := n }
/-- A pulse across the timebase's wrap (R3, worked example): up at 65000, down at 3000. -/
theorem test_pulse_wraps :
    ((runAt 3000 (.pulseFallingEdge .river .onArrival)
      (runAt 65000 (.pulseRisingEdge .river .onArrival) State.reset)).channel .river).lastWidth = 3536 := by decide

/-- From reset, through a power-on and a failed NV check with every pin inactive, back to the state after
reset (R181, log 1): the Event Queue and the road. -/
theorem test_startUp_events :
    (run (.startUpComplete false false false) (run .resetRelease (run .powerOn State.reset))).events
      = State.reset.events := by decide +kernel
theorem test_startUp_closure :
    (run (.startUpComplete false false false) (run .resetRelease (run .powerOn State.reset))).closure
      = State.reset.closure := by decide +kernel

/-! ## States for the witnesses -/

/-- The state after reset with a site profile in force. -/
def site : State := { State.reset with profile := { State.reset.profile with site := true } }

/-- An input at a level, with its pin there too. -/
def input (i : InputId) (level : Bool) (s : State) : State :=
  s.modInputs (·.put i { pin := level, level := level, candidate := false, timer := .stopped })

/-- An input whose pin has left its level, with its debounce timer running. -/
def changing (i : InputId) (pin : Bool) (s : State) : State :=
  s.modInputs (·.put i { pin := pin, level := !pin, candidate := true, timer := .running 0 })

/-- A link ACTIVE with nothing unread. -/
def active (k : Link) (s : State) : State :=
  s.modLink k fun x => { x with state := .active, silence := .running 500, unread := some 0 }

/-- A link ACTIVE and holding a unit. -/
def holding (k : Link) (u : UnitId) : State := setAuthority u (.link k) (active k site)

/-- A word at the front of a link's Write FIFO. -/
def queued (k : Link) (a : Addr) (v : Word) (s : State) : State :=
  s.modLink k fun x => { x with fifo := [(a, v)] }

/-- A pump in a State with its timer at zero. -/
def pumpAt (x : PumpState) (s : State) : State :=
  s.modPump 0 fun y => { y with state := x, timer := .running 0 }

/-- The road in a Closure State. -/
def roadAt (x : ClosureState) (s : State) : State :=
  s.modClosure fun y => { y with state := x, halt := .none }

/-- The first red of each approach is PROVEN, and so is Red Proven. -/
def redsProven (s : State) : State :=
  deriveRed ((s.modSignal 0 fun y => { y with proof := .proven }).modSignal 3 fun y => { y with proof := .proven })

/-! ## Witnesses: the whole machine -/

/-- Hypotheses of EventsBoundedKept, AuthorityKeptByStep, DrySafeKept, OneStartKept, BarriersGuardedKept and
FieldsKept: a safe state and a step. The pump 1 of this state is STARTING with a wet sump, and Link A holds
the lighting. -/
theorem witness_Safe :
    let s : State := { pumpAt .starting (input (.float .dry) true (holding .a .lighting)) with
      profile := State.reset.profile, pending := [.flashCycleWrap]
      authority := State.reset.authority, load := { State.reset.load with grantOrder := [0] } }
    Safe s ∧ handsFirst s.load.queue ∧ ∃ t, step s = .next t := by
  refine ⟨⟨⟨by decide, ?_⟩, ?_, ?_, ?_, ?_, ?_, ?_, ⟨by decide, by decide⟩, ?_, ?_, ⟨rfl, ?_, ?_⟩⟩, rfl, _, rfl⟩
  · intro k n h
    cases k
    · injection (show some 0 = some n from h) with h
      subst h
      decide
    · exact nomatch (show none = some n from h)
  · intro k
    cases k <;> exact ⟨by decide, fun h => nomatch (show Phase.running = .starting from h)⟩
  · intro _ u
    refine ⟨?_, fun k h => ?_⟩
    · rcases u with p | _ | _ | _
      · revert p; decide
      all_goals decide
    · exfalso
      rcases u with p | _ | _ | _
      · revert p h
        cases k <;> decide
      all_goals revert h; cases k <;> decide
  · exact fun _ => ⟨by decide, fun h => nomatch (show true = false from h)⟩
  · unfold OneStart
    decide
  · unfold GrantOrderHolds
    decide
  · intro b
    cases b <;> decide
  · unfold RotationOnce
    decide
  · refine ⟨fun k => ?_, by decide, by decide, by decide, by decide, by decide⟩
    cases k <;> decide
  · decide
  · decide

/-- StepRunsFront; IdleStepOnlyCounts with nothing due, with a timer due, with an evaluation waiting, and on a
part that does not run. -/
theorem witness_pending :
    let due := State.reset.modStem fun x => { x with stall := .running 0 }
    let wait := State.reset.modLoad fun x => { x with evalDue := true }
    ({ State.reset with pending := [.flashCycleWrap] } : State).pending = [.flashCycleWrap] ∧
      State.reset.pending = [] ∧ State.reset.phase = .running ∧ dueTimers State.reset = [] ∧
      dueWork State.reset = [] ∧ due.pending = [] ∧ dueTimers due ≠ [] ∧ wait.pending = [] ∧
      dueTimers wait = [] ∧ dueWork wait ≠ [] ∧ (run .powerOn State.reset).pending = [] ∧
      (run .powerOn State.reset).phase ≠ .running := by decide +kernel
/-! ## Witnesses: reset and start-up -/

/-- The part in STARTING as RESET_RELEASE leaves it. -/
def starting : State := run .resetRelease (run .resetPin State.reset)

/-- ResetsHold: a part that is not held, with select released; one held by a power-on, by the RESET pin, by a
HARD_RESET; and one in STARTING. -/
theorem witness_ResetsHold :
    State.reset.phase ≠ .held ∧ (State.reset.link .a).select = .released ∧
      (run .powerOn State.reset).phase = .held ∧ (run .powerOn State.reset).restartCause = .powerOn ∧
      (run .resetPin State.reset).phase = .held ∧
      (run (.hardReset ⟨.a, .whole⟩ 0) State.reset).phase = .held ∧
      (run (.hardReset ⟨.a, .whole⟩ 0) State.reset).restartCause ≠ .powerOn ∧
      starting.phase = .starting := by decide
/-- ResetKeepsHistories: a running part with a link's select released. -/
theorem witness_ResetKeepsHistories :
    State.reset.phase = .running ∧ (State.reset.link .b).select = .released := by decide
/-- StartUpChoosesProfile. -/
theorem witness_StartUpChoosesProfile :
    starting.phase = .starting ∧ starting.events = { entries := [], nextSeq := 1 } ∧
      (∀ k, starting.link k = { LinkPort.atReset with
        state := .starting, dataOut := (starting.link k).dataOut, select := (starting.link k).select }) ∧
      (∀ p, (starting.inputs.get (.tripped p)).pin = false) ∧
      (∀ g, (starting.inputs.get (.driverFault g)).pin = false) ∧
      (∀ d, (starting.inputs.get (.upLimit d)).pin = false ∧ (starting.inputs.get (.downLimit d)).pin = false) ∧
      (starting.inputs.get (.float .roadFlood)).pin = false := by
  refine ⟨by decide, by decide, fun k => by cases k <;> decide, by decide, by decide, fun d => ?_, by decide⟩
  rcases d with (_ | _) | _ <;> decide
/-- StartUpSetsBlocks: both barriers up, both down, neither; ROAD_FLOOD active under AUTO and under HAND; a pump
TRIPPED and a group in driver fault. -/
theorem witness_StartUpSetsBlocks :
    let go := run (.startUpComplete false false false)
    let up := input (.upLimit (.barrier .one)) true (input (.upLimit (.barrier .two)) true starting)
    let down := input (.downLimit (.barrier .one)) true (input (.downLimit (.barrier .two)) true starting)
    let flood := input (.float .roadFlood) true
    let faulty := input (.tripped 1) true (input (.driverFault 2) true starting)
    up.phase = .starting ∧ (up.inputs.get (.float .roadFlood)).pin = false ∧ barriersUp (go up) = true ∧
      down.phase = .starting ∧ (down.inputs.get (.float .roadFlood)).pin = false ∧
      (go down).limitPosition (.barrier .one) = .down ∧ (go down).limitPosition (.barrier .two) = .down ∧
      barriersUp (go starting) = false ∧ (go starting).limitPosition (.barrier .one) = .mid ∧
      (flood up).phase = .starting ∧ ((flood up).inputs.get (.float .roadFlood)).pin = true ∧
      (go (flood up)).authority.road ≠ .hand ∧ (go (flood up)).closure.state = .alert ∧
      (go (flood starting)).closure.state = .stop ∧ (go (input .roadKey true (flood up))).authority.road = .hand ∧
      starting.events = { entries := [], nextSeq := 1 } ∧ (go faulty).installed 1 = true ∧
      (go faulty).level (.tripped 1) = true ∧ (go faulty).level (.driverFault 2) = true ∧
      (∀ g, g ∈ groupsByPriority (go starting)) ∧ (groupsByPriority (go starting)).Nodup := by
  decide +kernel

/-! ## Witnesses: inputs and measurement -/

/-- PinChangeQualifies: leaving the level, returning to it, and on a part that does not run. -/
theorem witness_PinChangeQualifies :
    (State.reset.inputs.get .torque).pin ≠ true ∧ State.reset.phase = .running ∧
      ((changing .torque true State.reset).inputs.get .torque).pin ≠ false ∧
      (run .resetPin State.reset).phase ≠ .running := by decide
/-- DebounceExpiryQualifies: a timer that runs, and one that does not. -/
theorem witness_DebounceExpiryQualifies :
    let s := changing .torque true State.reset
    s.phase = .running ∧ (s.inputs.get .torque).timer.isRunning = true ∧ (s.inputs.get .torque).pin = true ∧
      (s.inputs.get .torque).level = false ∧
      (State.reset.inputs.get .torque).timer.isRunning = false := by decide
/-- DebounceExpiryQualifies, `limitActs`: a barrier driving to its down limit in LOWERING; both limits of it;
the penstock at its closed limit; and at its open limit with the count outside the tolerance, and within it.
-/
theorem witness_limitActs :
    let b := DriveId.barrier .one
    let s := roadAt .lowering (changing (.downLimit b) true
      (State.reset.modDrive b fun y => { y with state := .drivingDown }))
    let c := input (.upLimit b) true s
    let p (n : Nat) := (changing (.upLimit .penstock) true
      (State.reset.modDrive .penstock fun y => { y with state := .drivingUp })).modStem
        fun y => { y with referenced := true, count := n }
    (s.inputs.get (.downLimit b)).timer.isRunning = true ∧ (s.inputs.get (.downLimit b)).pin = true ∧
      (s.inputs.get (.downLimit b)).level = false ∧ s.limit b true = false ∧
      (s.drive b).state = .drivingDown ∧ s.closure.phase .one ≠ .downDone ∧ c.limit b true = true ∧
      (c.drive b).state ≠ .faulted ∧ c.closure.state = .lowering ∧
      ((p 9).drive .penstock).state = .drivingUp ∧ (p 9).gates.stem.referenced = true ∧
      (Param.limitTolerance (p 9).prof : Int) < Param.travelCounts (p 9).prof - ((p 9).gates.stem.count : Int) ∧
      ¬ (Param.limitTolerance (p 39500).prof : Int) <
        Param.travelCounts (p 39500).prof - ((p 39500).gates.stem.count : Int) := by decide +kernel
/-- A road whose barrier 1 drives toward a limit, which becomes active: its phase, and that of barrier 2. -/
def arriving (x : ClosureState) (up : Bool) (p q : BarrierPhase) : State :=
  (roadAt x (changing (if up then .upLimit (.barrier .one) else .downLimit (.barrier .one)) true
    (State.reset.modDrive (.barrier .one) fun y =>
      { y with state := if up then .drivingUp else .drivingDown }))).modClosure
    fun y => { y with phase1 := p, phase2 := q }

/-- DebounceExpiryQualifies, `arrivesAtRoad`: DOWN of a DESCENDING barrier, the other DOWN_DONE and not; UP of a
RETREATING one under OBSTRUCTION and without; UP of an ASCENDING one, the other UP_DONE, with a trigger that acts,
with one under HAND and without, and the other not; and an arrival that the road does not wait for. -/
theorem witness_arrivesAtRoad :
    let down := run (.debounceTimerExpiry (.downLimit (.barrier .one)))
    let up := run (.debounceTimerExpiry (.upLimit (.barrier .one)))
    let last := arriving .lowering false .descending .downDone
    let first := arriving .lowering false .descending .clearWait
    let back := arriving .lowering true .retreating .downDone
    let blocked := input (.obstruction .one) true back
    let open' := arriving .raising true .ascending .upDone
    let flooded := open'.modClosure fun y => { y with depth := true }
    let half := arriving .raising true .ascending .ascending
    last.limit (.barrier .one) true = false ∧ (last.drive (.barrier .one)).state = .drivingDown ∧
      last.closure.phase .one = .descending ∧ last.closure.phase .two = .downDone ∧
      (down last).closure.state = .closed ∧ (last.drive (.barrier .two)).state = .stopped ∧
      first.closure.phase .two ≠ .downDone ∧ (down first).closure.phase .one = .downDone ∧
      back.closure.phase .one = .retreating ∧ (up back).closure.phase .one = .clearWait ∧
      (up back).closure.clearWait1.isRunning = true ∧ blocked.level (.obstruction .one) = true ∧
      (up blocked).closure.clearWait1 = .stopped ∧ open'.limit (.barrier .one) false = false ∧
      open'.closure.trigger = false ∧ (up open').closure.state = .open ∧ flooded.closure.trigger = true ∧
      flooded.authority.road ≠ .hand ∧ (up flooded).closure.state = .alert ∧
      (up (setAuthority .road .hand flooded)).closure.state = .open ∧
      (up (setAuthority .road .hand flooded)).closure.advised = true ∧
      half.closure.phase .two ≠ .upDone ∧ (up half).closure.phase .one = .upDone ∧
      (arriving .raising false .ascending .upDone).closure.phase .one ≠ .descending := by decide +kernel
/-- DebounceExpiryQualifies, `obstructionActs`: within the retries, and past them. -/
theorem witness_obstructionActs :
    let s (n : Nat) := (roadAt .lowering (changing (.obstruction .two) true (State.reset.modDrive (.barrier .two)
      fun y => { y with state := .drivingDown }))).modClosure fun y => { y with obstructions := n }
    (s 2).closure.state = .lowering ∧ ((s 2).drive (.barrier .two)).state = .drivingDown ∧
      (s 2).limit (.barrier .two) true = false ∧ 2 + 1 ≤ Param.obstructionRetries (s 2).prof ∧
      Param.obstructionRetries (s 3).prof < 3 + 1 ∧ (s 254).closure.obstructions + 1 ≤ 255 := by decide
/-- DebounceExpiryQualifies, the torque switch, TRIPPED and DRIVER_FAULT: a seat at the band, a trip above it, a
trip while opening; a pump Installed and not; a group without a fault. -/
theorem witness_inputsAct :
    let s (x : DriveState) (n : Nat) := (changing .torque true (State.reset.modDrive .penstock
      fun y => { y with state := x })).modStem fun y => { y with referenced := true, count := n }
    (s .drivingDown 200).gates.stem.count ≤ Param.seatBand (s .drivingDown 200).prof ∧
      ¬ (s .drivingDown 201).gates.stem.count ≤ Param.seatBand (s .drivingDown 201).prof ∧
      (s .drivingDown 200).gates.stem.referenced = true ∧
      (s .drivingDown 200).gates.penstock.state = .drivingDown ∧
      (s .drivingUp 0).gates.penstock.state = .drivingUp ∧
      State.reset.installed 0 = true ∧ (State.reset.pump 0).state ≠ .faulted ∧
      ({ State.reset with profile := { State.reset.profile with
        active := builtinWords.set 0x50 0 } } : State).installed 0 = false ∧
      ((changing (.tripped 0) true State.reset).inputs.get (.tripped 0)).level = false ∧
      ((changing (.driverFault 5) true State.reset).inputs.get (.driverFault 5)).pin = true ∧
      (State.reset.group 5).fault = .none := by decide +kernel
/-- DebounceExpiryQualifies, SEAL_WARNING and inputs that become inactive, and an input already in fault. -/
theorem witness_inputsRest :
    let s := changing (.sealWarning 2) true State.reset
    let f := changing .torque false State.reset
    (s.inputs.get (.sealWarning 2)).timer.isRunning = true ∧ (s.inputs.get (.sealWarning 2)).pin = true ∧
      s.level (.sealWarning 2) = false ∧ s.installed 2 = true ∧ (f.inputs.get .torque).pin = false ∧
      f.level .torque = true ∧ (f.inputs.get .torque).timer.isRunning = true ∧
      ((pumpAt .faulted State.reset).pump 0).state = .faulted ∧
      ((State.reset.modGroup 5 fun y => { y with fault := .latched }).group 5).fault ≠ .none := by decide
/-- Stage 1 called and served by pump 1, which stands in a State with a timer. -/
def served (x : PumpState) (timer : Timer) : State :=
  (State.reset.modPump 0 fun y => { y with state := x, timer := timer }).modStage 0
    fun _ => { called := true, basis := .float, assigned := some 0 }

/-- DebounceExpiryQualifies, `floatActs`: DRY falling with a pump on and with one queued, and rising for a
pump that may queue; STOP falling in float mode with the pump of stage 1 in each State, and outside float
mode; HIGH and HIGH_HIGH, two stages being usable. -/
theorem witness_floatActs :
    let dry (s : State) := changing (.float .dry) false s
    let q := qualified (changing (.float .dry) true (setAuthority (.pump 0) .hand (input (.keyHand 0) true
      (State.reset.modLoad fun x => { x with budget := 1 })))) (.float .dry)
    let stop := qualified (changing (.float .stop) false (served .queued .stopped)) (.float .stop)
    ((dry (pumpAt .running State.reset)).inputs.get (.float .dry)).timer.isRunning = true ∧
      (dry State.reset).level (.float .dry) = true ∧ ((dry (pumpAt .running State.reset)).pump 0).isOn = true ∧
      ((dry (pumpAt .queued State.reset)).pump 0).state = .queued ∧ mayQueue q 0 ∧
      stop.profile.site = false ∧ stop.level (.float .stop) = false ∧ (stop.stage 0).called = true ∧
      (stop.stage 0).assigned = some 0 ∧ stop.authorityOf (.pump 0) = .auto ∧
      (∀ j, (stop.stage j).assigned = some 0 → (stop.stage j).called = true) ∧
      ((served .running .expired).pump 0).timer.isRunning = false ∧
      ((served .running (.running 3)).pump 0).timer.isRunning = true ∧
      ((served .starting (.running 3)).pump 0).state = .starting ∧
      site.profile.site = true ∧ (site.modSump fun y => { y with source := .both }).sump.source ≠ .floats ∧
      latches (input (.float .high) true State.reset) 0 ∧ ¬ latches (input (.float .high) true State.reset) 1 ∧
      latches (input (.float .highHigh) true State.reset) 1 ∧
      ¬ latches (input (.float .highHigh) true State.reset) 2 := by
  unfold mayQueue latches
  decide +kernel
/-- DebounceExpiryQualifies, `lampTestActs`: pressed and released in OPEN, and in another state. -/
theorem witness_lampTestActs :
    let on := changing (.button .lampTest) true (roadAt .open State.reset)
    let off := changing (.button .lampTest) false ((roadAt .open State.reset).modSignals
      fun y => { y with lampTest := true })
    on.closure.state = .open ∧ (on.inputs.get (.button .lampTest)).timer.isRunning = true ∧
      on.displayed 0 = .steady ∧ on.displayed 2 = .dark ∧ (off.signal 0).commanded = .steady ∧
      (off.signal 2).commanded = .dark ∧
      off.signals.lampTest = true ∧ off.level (.button .lampTest) = true ∧
      (roadAt .stop on).closure.state ≠ .open ∧ on.signals.lampTest = false ∧
      RedDerived (qualified (roadAt .stop on) (.button .lampTest)) := by
  unfold RedDerived
  decide +kernel
/-- DebounceExpiryQualifies, `limitLeft` and `clearWaitJudged`: the penstock off its seat under a CLOSED
target, and under another; a DOWN_DONE barrier that leaves its down limit in LOWERING, and a limit left in
another state; an OBSTRUCTION input in CLEAR_WAIT, in each direction, and elsewhere. -/
theorem witness_limitLeft :
    let p := changing (.downLimit .penstock) false ((State.reset.modPenstock fun y =>
      { y with target := .closed }).modDrive .penstock fun y => { y with state := .stopped })
    let b := (changing (.downLimit (.barrier .one)) false (roadAt .lowering (State.reset.modDrive (.barrier .one)
      fun y => { y with permit := true, dwell := .expired }))).modClosure fun y => { y with phase1 := .downDone }
    let c (pin : Bool) := (changing (.obstruction .two) pin (roadAt .lowering State.reset)).modClosure
      fun y => { y with phase2 := .clearWait }
    p.level (.downLimit .penstock) = true ∧ p.penstock.target = .closed ∧ p.gates.penstock.state = .stopped ∧
      p.gates.stem.seatFlag = false ∧
      (p.modPenstock fun y => { y with target := .open }).penstock.target ≠ .closed ∧
      b.closure.state = .lowering ∧ b.closure.phase .one = .downDone ∧
      (b.drive (.barrier .one)).state = .stopped ∧ (b.drive (.barrier .one)).permit = true ∧
      (b.drive (.barrier .one)).dwell.isRunning = false ∧ b.level (.obstruction .one) = false ∧
      (roadAt .closed b).closure.state ≠ .lowering ∧ (roadAt .closed b).closure.advised = advisedNow (roadAt .closed b) ∧
      (c true).closure.state = .lowering ∧ (c true).closure.phase .two = .clearWait ∧
      ((c true).drive (.barrier .two)).state ≠ .drivingDown ∧ (c false).level (.obstruction .two) = true ∧
      (c true).closure.phase .one ≠ .clearWait ∧ (c true).closure.advised = advisedNow (c true) := by decide +kernel
/-- PulseCapture: both Capture Phases. -/
theorem witness_PulseCapture :
    State.reset.phase = .running ∧ (State.reset.channel .river).phase = .awaitingRise ∧
      ((runAt 7 (.pulseRisingEdge .river .onArrival) State.reset).channel .river).phase = .awaitingFall ∧
      ((runAt 7 (.pulseRisingEdge .river .onArrival) State.reset).channel .river).state = .uncalibrated := by decide
/-- SampleActsByState: an UNCALIBRATED channel and a HEALTHY one of each reader under SITE; a third invalid
sample and a third valid one of a recovery; a change of Sump Source; a Backflow's onset under a link. -/
theorem witness_SampleActsByState :
    let s (c : ChannelId) (x : ChannelState) := (runAt 7 (.pulseRisingEdge c .onArrival) (holding .a .penstock)).modChannel c
      fun y => { y with state := x, invalidCount := 2, recoveryCount := 2 }
    let b := ((s .river .healthy).modPenstock fun y => { y with target := .open }).modSump
      fun y => { y with valid := true }
    let t := runAt 9007 (.pulseFallingEdge .river .onArrival) b
    let f := runAt 9007 (.pulseFallingEdge .sumpA .onArrival) (s .sumpA .healthy)
    RedDerived (s .river .uncalibrated) ∧ RedDerived (s .sumpA .failed) ∧ RedDerived b ∧ (s .river .uncalibrated).phase = .running ∧
      ((s .river .uncalibrated).channel .river).phase = .awaitingFall ∧
      ((s .river .uncalibrated).channel .river).state = .uncalibrated ∧
      ((s .carriageway .healthy).channel .carriageway).state = .healthy ∧
      ((s .sumpA .healthy).channel .sumpA).invalidCount = 2 ∧
      ((s .sumpA .failed).channel .sumpA).recoveryCount = 2 ∧
      Param.faultLow (s .sumpA .failed).prof .sumpA ≤ 9000 ∧
      9000 ≤ Param.faultHigh (s .sumpA .failed).prof .sumpA ∧
      ¬ Param.faultLow (s .sumpA .failed).prof .sumpA ≤ 499 ∧
      (s .sumpA .healthy).profile.site = true ∧ (s .sumpA .healthy).sump.source = .floats ∧
      f.sump.source ≠ .floats ∧ overrides b t .a := by
  refine ⟨⟨by decide, by decide⟩, ⟨by decide, by decide⟩, ⟨by decide, by decide⟩, by decide, by decide, by decide,
    by decide, by decide, by decide, by decide, by decide, by decide, by decide, by decide, by decide +kernel,
    by decide, by decide, by decide +kernel, by decide⟩
/-- A part on an OPEN road whose profile has three stages at 500 apart, no confirm time and a Sump Closure
Level of 300; its channel `c` has begun a pulse, is in a state and reports a value. -/
def pulsing (c : ChannelId) (x : ChannelState) (value : Nat) : State :=
  let w := builtinWords |>.set 0x70 3 |>.set 0x71 10 |>.set 0x9F 500 |>.set 0xA6 1000 |>.set 0xE2 0 |>.set 0xE3 300
  let s := { site with profile := { site.profile with active := w } }
  ((runAt 7 (.pulseRisingEdge c .onArrival) (roadAt .open s)).modLighting
    fun y => { y with stage := 2, dwell := .expired }).modChannel c
    fun y => { y with state := x, reported := value, filter := 16 * value, invalidCount := 2, sampleTimer := .running 9 }

/-- SampleActsByState and SampleTimeoutFails, `readersAct`: by a third invalid sample, a CARRIAGEWAY that
fails while the sump is high, and a last sump channel that does, with STOP active and stage 1 called; by one
that does not change the State, a LUMINANCE that reaches stage 3, one that stays, one below stage 2 with the
dwell expired; and a depth that triggers in OPEN. -/
theorem witness_readersAct :
    let cw := (pulsing .carriageway .healthy 0).modSump fun y => { y with valid := true, level := 300 }
    let cw' := runAt 8 (.pulseFallingEdge .carriageway .onArrival) cw
    let sump := (input (.float .stop) true ((pulsing .sumpA .healthy 0).modSump
      fun y => { y with source := .a })).modStage 0 fun _ => { called := true, basis := .level, assigned := none }
    let lum (n : Nat) := (pulsing .luminance .healthy n).modChannel .luminance fun y => { y with invalidCount := 0 }
    let after (n : Nat) := runAt 8 (.pulseFallingEdge .luminance .onArrival) (lum n)
    let deep := (pulsing .carriageway .healthy 150).modChannel .carriageway fun y => { y with invalidCount := 0 }
    let deep' := runAt 8 (.pulseFallingEdge .carriageway .onArrival) deep
    RedDerived cw ∧ RedDerived sump ∧ RedDerived deep ∧ (∀ n, RedDerived (lum n)) ∧
      (cw'.channel .carriageway).state = .failed ∧ cw'.closure.sumpBackup = true ∧ cw.closure.trigger = false ∧
      cw.closure.state = .open ∧ cw.authority.road ≠ .hand ∧ cw'.closure.trigger = true ∧
      sump.sump.source ≠ .floats ∧ sump.profile.site = true ∧ sump.level (.float .stop) = true ∧
      (sump.stage 0).called = true ∧ (runAt 8 (.pulseFallingEdge .sumpA .onArrival) sump).sump.source = .floats ∧
      (lum 1000).lighting.stage = 2 ∧ 2 ≤ Param.installedStages (lum 1000).prof ∧
      (lum 1000).lighting.dwell.isRunning = false ∧ ((after 1000).channel .luminance).state = .healthy ∧
      (after 1000).lighting.stage = 3 ∧ (after 490).lighting.stage = 2 ∧ (after 489).lighting.stage = 1 ∧
      (runAt 8 (.pulseFallingEdge .luminance .onArrival) (pulsing .luminance .healthy 0)).lighting.stage = 3 ∧
      (runAt 8 (.pulseFallingEdge .luminance .onArrival) (pulsing .luminance .failed 0)).lighting.stage = 2 ∧
      deep.closure.trigger = false ∧ deep'.closure.trigger = true ∧ deep'.closure.depth = true := by
  refine ⟨⟨by decide, by decide⟩, ⟨by decide, by decide⟩, ⟨by decide, by decide⟩, fun _ => ⟨rfl, rfl⟩, ?_⟩
  decide +kernel
/-- SampleActsByState, `sumpCompared`: two HEALTHY sump channels 201 apart, past the Agreement Band of 200, with
the episode closed and with it open; and 200 apart. -/
theorem witness_sumpCompared :
    let apart (n : Nat) := (pulsing .sumpA .healthy 1000).modChannel .sumpB
      fun y => { y with state := .healthy, reported := n }
    let s (n : Nat) := (apart n).modChannel .sumpA fun y => { y with invalidCount := 0 }
    let t (n : Nat) := runAt 8 (.pulseFallingEdge .sumpA .onArrival) (s n)
    RedDerived (s 1201) ∧ (s 1201).phase = .running ∧ ((s 1201).channel .sumpA).phase = .awaitingFall ∧
      (s 1201).sump.disagreement = false ∧ (t 1201).sump.disagreement = true ∧
      (t 1200).sump.disagreement = false ∧ (t 1201).events.entries.any
        (fun e => e.kind == .sumpDisagree && e.subject == 2 && e.detail == 201) = true := by
  refine ⟨⟨by decide, by decide⟩, ?_⟩
  decide +kernel
/-- SampleArithmetic: a span, and the edges of each clause. -/
theorem witness_SampleArithmetic :
    0 < Param.spanWidth calibration .sumpA ∧ 1000 ≤ Param.zeroWidth calibration .sumpA ∧
      Param.zeroWidth calibration .sumpA + Param.spanWidth calibration .sumpA ≤ 9000 ∧
      Param.zeroWidth calibration .sumpA ≤ 1000 ∧
      9000 ≤ Param.zeroWidth calibration .sumpA + Param.spanWidth calibration .sumpA ∧
      (46400 : Nat) ≤ 2900 * 16 ∧ 2900 * 16 ≤ (46400 : Nat) ∧ absDiff (2900 * 16) 46397 < 2 ^ 2 := by decide
/-- SampleTimeoutFails: both health states. -/
theorem witness_SampleTimeoutFails :
    let s (x : ChannelState) :=
      State.reset.modChannel .river fun c => { c with state := x, sampleTimer := .running 0 }
    (∀ x, RedDerived (s x)) ∧ (s .waiting).phase = .running ∧
      ((s .waiting).channel .river).sampleTimer.isRunning = true ∧
      ((s .waiting).channel .river).state = .waiting ∧
      ((s .healthy).channel .river).state = .healthy := by
  refine ⟨fun _ => ⟨rfl, rfl⟩, ?_⟩
  decide
/-- ClockAndRateWindow: a running window; pump 1 at its start limit, whose oldest entry ages now, called by its
key, and under AUTO with stage 1 unserved; and one that is RUNNING. -/
theorem witness_ClockAndRateWindow :
    let w := State.reset.modSump fun x => { x with windowTimer := .running 0, windowLen := 60 }
    let s (x : PumpState) : State := (input (.float .dry) true ({ State.reset with stationClock := 3600 }.modLoad
      fun y => { y with budget := 1 })).modPump 0 fun y => { y with state := x, history := [1, 1, 1, 1, 1, 1] }
    let later (x : PumpState) : State := { s x with stationClock := (s x).stationClock + 1 }
    let hand (x : State) := setAuthority (.pump 0) .hand (input (.keyHand 0) true x)
    let stage : State := ({ s .idle with rotation := [0] }).modStage 0
      fun _ => { called := true, basis := .float, assigned := none }
    let t := run .stationClockSecond stage
    w.phase = .running ∧ w.sump.windowTimer.isRunning = true ∧ (s .idle).phase = .running ∧
      ¬ mayQueue (hand (s .idle)) 0 ∧ mayQueue (hand (later .idle)) 0 ∧
      stage.authorityOf (.pump 0) = .auto ∧ (stage.pump 0).state = .idle ∧ (stage.pump 0).requeue = false ∧
      (t.stage 0).assigned = some 0 ∧ queueable (later .idle) 0 ∧ (t.pump 0).state = .queued ∧
      ((s .running).pump 0).state = .running := by
  unfold mayQueue
  decide +kernel

/-! ## Witnesses: pumps and load -/

/-- ProofTimersFault: STARTING and STOPPING, with no pump holding two stages. -/
theorem witness_ProofTimersFault :
    (pumpAt .starting State.reset).phase = .running ∧
      ((pumpAt .starting State.reset).pump 0).timer.isRunning = true ∧
      ((pumpAt .starting State.reset).pump 0).state = .starting ∧
      ((pumpAt .stopping State.reset).pump 0).timer.isRunning = true ∧
      ((pumpAt .stopping State.reset).pump 0).state = .stopping ∧
      (∀ j k, ((pumpAt .starting State.reset).stage j).assigned = some 0 →
        ((pumpAt .starting State.reset).stage k).assigned = some 0 → j = k) := by decide
/-- RunAndRestEnd: RUNNING, and RESTING with no budget, and with every condition of R25 under HAND with its key
at HAND, under a link with RUN and with STOP, and under AUTO with a stage. -/
theorem witness_RunAndRestEnd :
    let ready (a : Authority) (s : State) := setAuthority (.pump 0) a (input (.keyHand 0) true
      (input (.float .dry) true (s.modLoad fun x => { x with budget := 1 })))
    let hand := ready .hand (pumpAt .resting State.reset)
    let link := ready (.link .a) (pumpAt .resting State.reset)
    let run := link.modDemands fun y => { y with pumpRun := y.pumpRun.set 0 true }
    let auto := ready .auto (served .resting (.running 0))
    ((pumpAt .running State.reset).pump 0).timer.isRunning = true ∧
      ((pumpAt .running State.reset).pump 0).state = .running ∧
      (pumpAt .resting State.reset).load.budget = 0 ∧
      (∀ s ∈ [hand, link, run, auto], s.phase = .running ∧ (s.pump 0).timer.isRunning = true ∧
        (s.pump 0).state = .resting ∧ 0 < s.load.budget ∧ s.installed 0 = true ∧
        s.level (.float .dry) = true ∧ s.runProven 0 = false ∧
        (pruneHistory s.stationClock (s.pump 0).history).length < Param.maxStarts s.prof 0) ∧
      hand.authorityOf (.pump 0) = .hand ∧ hand.keyHand 0 = true ∧ link.authorityOf (.pump 0) = .link .a ∧
      link.authority.demands.pumpRun[(0 : PumpId)] = false ∧ run.authority.demands.pumpRun[(0 : PumpId)] = true ∧
      auto.authorityOf (.pump 0) = .auto ∧ (auto.stage 0).assigned = some 0 := by decide +kernel
/-- R55, the four places of a new entry in a queue of one HAND and one other entry, and a queue that has its
HAND entries in front. -/
theorem test_queuePlaces :
    let e (p : PumpId) (x : Call) : QueueEntry := { pump := p, source := x, queuedAt := 7 }
    let q := [e 0 .hand, e 1 .auto]
    handsFirst q ∧ placeEntry (e 2 .link) false q = [e 0 .hand, e 1 .auto, e 2 .link] ∧
      placeEntry (e 2 .link) true q = [e 0 .hand, e 2 .link, e 1 .auto] ∧
      placeEntry (e 2 .hand) false q = [e 0 .hand, e 2 .hand, e 1 .auto] ∧
      placeEntry (e 2 .hand) true q = [e 2 .hand, e 0 .hand, e 1 .auto] := by
  unfold handsFirst
  decide
/-- RunProvenStartsRun: each direction, in each State; a RUNNING pump on a live supply and on a dead one; an
IDLE pump that may queue. -/
theorem witness_RunProvenStartsRun :
    let s (pin : Bool) (x : PumpState) := changing (.runProven 0) pin (pumpAt x State.reset)
    let q := qualified (s false .idle) (.runProven 0)
    let hand := setAuthority (.pump 0) .hand (input (.keyHand 0) true (input (.float .dry) true
      (q.modLoad fun x => { x with budget := 1 })))
    (∀ x ∈ [PumpState.idle, .queued, .starting, .running, .stopping, .resting, .faulted],
        ((s true x).pump 0).state = x ∧ ((s false x).pump 0).state = x) ∧
      (s true .starting).phase = .running ∧
      ((s true .starting).inputs.get (.runProven 0)).timer.isRunning = true ∧
      ((s true .starting).inputs.get (.runProven 0)).pin = true ∧ (s true .starting).level (.runProven 0) = false ∧
      ((s false .running).inputs.get (.runProven 0)).pin = false ∧ (s false .running).level (.runProven 0) = true ∧
      (s false .running).load.supply = .dead ∧
      ((s false .running).modLoad fun x => { x with supply := .mains }).load.supply ≠ .dead ∧ mayQueue hand 0 := by
  unfold mayQueue
  decide +kernel
/-- SupplyLossIdlesPumps: the last contact opening, MAINS_HEALTHY and GENERATOR_ON_LOAD, with a pump on that
holds a stage and has room in its history; a supply returning; a mains that opens under the generator. -/
theorem witness_SupplyLossIdlesPumps :
    let s (i : InputId) (pin : Bool) (x : Supply) := changing i pin
      ((served .running (.running 3)).modLoad fun y => { y with supply := x })
    let m := s .mainsHealthy false .mains
    let g := s .generatorOnLoad false .generator
    let r := s .mainsHealthy true .dead
    let u := input .generatorOnLoad true (s .mainsHealthy false .generator)
    let lives (s : State) (i : InputId) := (s.inputs.get i).timer.isRunning = true ∧
      (s.inputs.get i).pin ≠ (s.inputs.get i).level
    m.phase = .running ∧ lives m .mainsHealthy ∧ (qualified m .mainsHealthy).level .generatorOnLoad = false ∧
      (qualified m .mainsHealthy).level .mainsHealthy = false ∧ m.load.supply ≠ .dead ∧ (m.pump 0).isOn = true ∧
      (m.stage 0).assigned = some 0 ∧
      ((run (.debounceTimerExpiry .mainsHealthy) m).pump 0).history.length < Param.maxStarts m.prof 0 ∧
      lives g .generatorOnLoad ∧ (qualified g .generatorOnLoad).level .mainsHealthy = false ∧
      (qualified g .generatorOnLoad).level .generatorOnLoad = false ∧ g.load.supply ≠ .dead ∧
      lives r .mainsHealthy ∧ (qualified r .mainsHealthy).level .mainsHealthy = true ∧ r.load.supply = .dead ∧
      lives u .mainsHealthy ∧ (qualified u .mainsHealthy).level .generatorOnLoad = true ∧
      u.load.supply = .generator := by decide +kernel
/-- LoadTimersExpire: each timer. -/
theorem witness_LoadTimersExpire :
    let s := State.reset.modLoad fun x =>
      { x with settle := .running 0, stagger := .running 0, hold := .running 0, episode := some 3 }
    s.phase = .running ∧ s.load.settle.isRunning = true ∧ s.load.stagger.isRunning = true ∧
      s.load.hold.isRunning = true ∧ s.load.episode = some 3 := by decide
/-- LoadEvaluationSettles and DistributionFits: the Priorities of the BUILTIN profile, and a Start Queue that
holds QUEUED pumps only. -/
theorem witness_priorities :
    let s := (pumpAt .queued State.reset).modLoad fun x =>
      { x with queue := [{ pump := 0, source := .auto, queuedAt := 0 }] }
    State.reset.phase = .running ∧ (∀ g, g ∈ groupsByPriority State.reset) ∧
      (groupsByPriority State.reset).Nodup ∧
      (∀ e ∈ s.load.queue, (s.pump e.pump).state = .queued) := by decide +kernel
/-- A settled mains of 1000 with a lamp group whose floor takes 5000, and pump 1 STARTING. -/
def overloaded : State :=
  { (pumpAt .starting State.reset).modLoad fun x => { x with supply := .mains, grantOrder := [0] } with
    profile := { State.reset.profile with active := builtinWords |>.set 0x09 1000 |>.set 0x78 5000 } }

/-- LoadEvaluationSheds: a settled evaluation that leaves more committed than the budget, and with it
DistributionFits: an allowance below the floors, for a group with a Full Load and one without. -/
theorem witness_LoadEvaluationSheds :
    let t := run .loadEvaluation overloaded
    overloaded.phase = .running ∧ GrantOrderHolds overloaded ∧ overloaded.load.supply ≠ .dead ∧
      overloaded.load.settle.isRunning = false ∧ (overloaded.pump 0).state = .starting ∧
      t.load.budget < t.load.committed ∧ t.load.allowance < 5000 ∧
      Param.fullLoad overloaded.prof 0 = 5000 ∧ Param.fullLoad overloaded.prof 1 = 0 ∧
      min (Param.floorDuty overloaded.prof 0) (overloaded.group 0).requested = 1000 := by
  refine ⟨by decide, ?_, by decide, by decide, by decide, by decide +kernel, by decide +kernel,
    by decide, by decide, by decide⟩
  unfold GrantOrderHolds
  decide
/-- LoadEvaluationSheds, `permitsTaken` and `permitNamed`: one pump STARTING over the budget, and no other on; two
RUNNING on a settled supply that carries one, the later one taken, and the earlier with that one under HAND. -/
theorem witness_permitsTaken :
    let w := builtinWords |>.set 0x06 2 |>.set 0x09 500 |>.set 0x51 300 |>.set 0x59 300
    let two : State := { (([0, 1] : List PumpId).foldl (fun s p => s.modPump p fun y => { y with state := .running })
      State.reset).modLoad fun x => { x with supply := .mains, settle := .expired, grantOrder := [0, 1] } with
      profile := { State.reset.profile with active := w } }
    let t := run .loadEvaluation overloaded
    let u := run .loadEvaluation two
    OneStart overloaded ∧ overloaded.load.queue = [] ∧ (∀ g, g ∈ groupsByPriority overloaded) ∧
      (groupsByPriority overloaded).Nodup ∧ (t.pump 0).stopCause = .aborted ∧ (t.pump 0).requeue = true ∧
      OneStart two ∧ GrantOrderHolds two ∧ two.load.queue = [] ∧ (∀ g, g ∈ groupsByPriority two) ∧
      (groupsByPriority two).Nodup ∧ two.load.settle.isRunning = false ∧ (u.pump 1).stopCause = .shed ∧
      (u.pump 0).state = .running ∧
      ((run .loadEvaluation (setAuthority (.pump 1) .hand two)).pump 0).stopCause = .shed := by
  refine ⟨?_, by decide, by decide +kernel, by decide +kernel, by decide +kernel, by decide +kernel, ?_, ?_,
    by decide, by decide +kernel, by decide +kernel, by decide, by decide +kernel, by decide +kernel,
    by decide +kernel⟩
  · unfold OneStart
    decide
  · unfold OneStart
    decide
  · unfold GrantOrderHolds
    decide
/-- DistributionFits, `sharedOut`: Full Loads 100 and 200 in ascending Priority share an allowance of 210 over
floors of 10 and 20: a full request, then a partial grant; 110 gives a full request, and 5 gives floors. -/
theorem witness_sharedOut :
    let w (n : Word) := builtinWords |>.set 0x09 n |>.set 0x0B 0 |>.set 0x78 100 |>.set 0x79 100 |>.set 0x7D 200 |>.set 0x7E 100
    let s (n : Word) : State := { State.reset.modLoad fun x => { x with supply := .mains, settle := .expired } with
      profile := { State.reset.profile with active := w n } }
    let t (n : Word) := run .loadEvaluation (s n)
    (s 210).phase = .running ∧ (∀ g, g ∈ groupsByPriority (s 210)) ∧ (groupsByPriority (s 210)).Nodup ∧
      ((s 210).group 0).requested = 1000 ∧ (t 210).load.allowance = 210 ∧
      ((t 210).group 0).granted = 1000 ∧ ((t 210).group 1).granted = 550 ∧
      ((t 5).group 0).granted = 100 ∧ ((t 5).group 1).granted = 100 := by decide +kernel
/-- GrantRule, `episodeJudged`: a head that the load condition holds back, without an episode and with its own;
one that has ended, the head being let start; and a queue that a grant leaves with a new head held back. -/
theorem witness_episodeJudged :
    let s (n : Word) (episode : Option PumpId) : State := { ((input (.float .dry) true (served .queued .stopped)).modLoad fun x =>
      { x with supply := .mains, settle := .expired, stagger := .expired, episode := episode, hold := .running 7,
               queue := [{ pump := 0, source := .auto, queuedAt := 0 }] }) with
      profile := { State.reset.profile with active := builtinWords |>.set 0x09 n |>.set 0x0B 0 |>.set 0x51 300 } }
    let t (n : Word) (episode : Option PumpId) := (run .loadEvaluation (s n episode)).load
    (s 100 none).phase = .running ∧ (∀ e ∈ (s 100 none).load.queue, ((s 100 none).pump e.pump).state = .queued) ∧
      (t 100 none).episode = some 0 ∧ (t 100 none).hold = .running 3000 ∧ (t 100 (some 0)).hold = .running 7 ∧
      (t 60000 (some 0)).episode = none ∧ (t 60000 (some 0)).hold = .stopped := by decide +kernel
/-- GrantRule: a head that a load evaluation starts. -/
theorem witness_GrantRule :
    let s := State.reset.modLoad fun x =>
      { x with supply := .mains, queue := [{ pump := 2, source := .auto, queuedAt := 0 }] }
    let t := run .loadEvaluation s
    s.phase = .running ∧ (s.load.queue.head?.map (·.pump)) = some 2 ∧ s.load.supply ≠ .dead ∧
      s.load.stagger.isRunning = false ∧ (∀ q, (s.pump q).state ≠ .starting) ∧
      countOn s < Param.maxRunning s.prof ∧ t.load.committed + startingLoad s 2 ≤ t.load.budget ∧
      (t.pump 2).state = .starting := by decide +kernel

/-- GrantRule, `waitingEntered`, at the end of an outage (R63): behind the entry of pump 0, kept from the outage,
pump 1 is entered where it is called by AUTO; called by HAND, or with Requeue At Head set, it is entered ahead of
it (R55) and is the pump that this evaluation starts; and pump 0 called by HAND keeps its place ahead. -/
theorem witness_waitingEntered :
    let s (kept : Call) (hand requeue : Bool) : State :=
      let called := ((input (.float .dry) true (served .queued .stopped)).modStage 1 fun _ =>
        { called := true, basis := .float, assigned := some 1 }).modPump 1 fun y => { y with requeue := requeue }
      let keyed := if hand then setAuthority (.pump 1) .hand (input (.keyHand 1) true called) else called
      keyed.modLoad fun x =>
        { x with supply := .mains, settle := .expired, queue := [{ pump := 0, source := kept, queuedAt := 0 }] }
    let t (kept : Call) (hand requeue : Bool) := run .loadEvaluation (s kept hand requeue)
    let left (x : State) := (allPumps.filter fun p => (x.pump p).state == .starting, x.load.queue.map (·.pump))
    (s .auto true false).load.budget = 0 ∧ (s .auto true false).load.queue.length = 1 ∧
      (∀ e ∈ (s .auto true false).load.queue, ((s .auto true false).pump e.pump).state = .queued) ∧
      left (t .auto false false) = ([0], [1]) ∧ left (t .auto true false) = ([1], [0]) ∧
      left (t .auto false true) = ([1], [0]) ∧ left (t .hand true false) = ([0], [1]) := by decide +kernel

/-! ## Witnesses: lighting and signals -/

/-- BoundaryLoadsDuties, FlashCycleBegins: a TRANSIENT fault whose input is inactive; a counter within its period,
an offset within it. -/
theorem witness_running :
    let f := (State.reset.modGroup 2 fun y => { y with fault := .transient }).modLoad fun x => { x with evalDue := false }
    (f.group 2).fault = .transient ∧ f.level (.driverFault 2) = false ∧
      (run .lightingPeriodBoundary f).load.evalDue = true ∧
      State.reset.phase = .running ∧ State.reset.lighting.counter < State.reset.lighting.periodInUse ∧
      (State.reset.group 0).offset ≤ 1000 := by decide
/-- Chapter 4's worked example (4.2): 533 per mille from 800 per mille of a 2000 us period is lit from 1600 to
the end and from 0 to 665. -/
theorem test_lampOutput :
    let s (n : Nat) := (State.reset.modLighting fun x => { x with counter := n }).modGroup 1
      fun x => { x with applied := 533, offset := 800 }
    lampOutput (s 1599) 1 = false ∧ lampOutput (s 1600) 1 = true ∧ lampOutput (s 665) 1 = true ∧
      lampOutput (s 666) 1 = false := by decide
/-- DwellExpiryStepsDown: stage 2 of 2, with a luminance below its threshold less the hysteresis, and one at
it. -/
theorem witness_DwellExpiryStepsDown :
    let s (lum : Nat) : State :=
      let w := builtinWords |>.set 0x70 2 |>.set 0x71 10 |>.set 0x9F 200
      let s := { site with profile := { site.profile with active := w } }
      (s.modLighting fun x => { x with stage := 2, dwell := .running 0 }).modChannel .luminance
        fun x => { x with state := .healthy, reported := lum }
    (s 189).phase = .running ∧ (s 189).lighting.dwell.isRunning = true ∧
      (s 189).channels.luminance.state = .healthy ∧ 1 < (s 189).lighting.stage ∧
      (s 189).lighting.stage ≤ Param.installedStages (s 189).prof ∧
      Param.installedStages (s 189).prof ≤ 2 ∧
      ((s 189).channels.luminance.reported : Int) <
        (Param.threshold (s 189).prof 2 : Int) - Param.stageHysteresis (s 189).prof ∧
      ¬ ((s 190).channels.luminance.reported : Int) <
        (Param.threshold (s 190).prof 2 : Int) - Param.stageHysteresis (s 190).prof := by decide +kernel
/-- SignalOutputLit: each aspect, and the positions 200, 499, 500. -/
theorem witness_SignalOutputLit :
    let s (x : Aspect) := State.reset.modSignal 0 fun y => { y with commanded := x }
    (s .dark).phase = .running ∧ (s .dark).signals.position < (s .dark).signals.periodInUse ∧
      (s .dark).displayed 0 = .dark ∧ (s .steady).displayed 0 = .steady ∧
      (s .flashA).displayed 0 = .flashA ∧ (s .flashB).displayed 0 = .flashB ∧ 1001 % 2 = 1 ∧
      (200 : Nat) ≤ 499 ∧ litAt .flashB 1000 499 = false ∧ litAt .flashB 1000 500 = true ∧
      (run .resetPin (s .dark)).phase = .held := by decide
/-- CheckProvesLamps: a STEADY channel due at 750 in each Proof State, a channel that is not due, and a road in
LOWERING with both approaches proved by one channel each. -/
theorem witness_CheckProvesLamps :
    let s (p : Proof) (miss : Nat) := State.reset.modSignal 0 fun y => { y with proof := p, miss := miss }
    let due (s : State) (n : SignalId) := checkPositionOf (s.displayed n) s.signals.periodInUse = some 750 ∧
      (s.signal n).checked = false
    let l := ((roadAt .lowering (s .proven 1)).modSignal 3 fun y => { y with proof := .proven }).modSignals
      fun y => { y with redProven1 := true, redProven2 := true }
    (s .failed 0).phase = .running ∧ (s .failed 0).signals.position ≤ 750 ∧
      750 < (s .failed 0).signals.periodInUse ∧ (s .failed 0).closure.state ≠ .lowering ∧
      due (s .failed 0) 0 ∧ due (s .unproven 0) 0 ∧ due (s .proven 1) 0 ∧ ¬ due (s .proven 1) 2 ∧
      (0xFF : BitVec 8).getLsbD 0 = true ∧ (0xFE : BitVec 8).getLsbD 0 = false ∧
      l.closure.state = .lowering ∧ (RedDerived l) ∧ l.signals.redProven1 = true ∧
      l.signals.redProven2 = true ∧ l.signals.lampTest = false ∧
      (∀ n : SignalId, (l.signal n).commanded = (aspectsOf .lowering)[n]) ∧
      (run (.checkPosition 750 0xFC) l).signals.redProven1 = false := by
  refine ⟨by decide, by decide, by decide, by decide, by decide, by decide, by decide, by decide, by decide,
    by decide, by decide, ⟨by decide, by decide⟩, by decide, by decide, by decide, by decide, by decide +kernel⟩
/-- CheckProvesLamps in STOP: the second approach proved by a check, and lost at another; and one that changes no
Red Proven. -/
theorem witness_stopProved :
    let s (p : Proof) := deriveRed (((roadAt .stop State.reset).modSignal 0 fun y => { y with proof := .proven }).modSignal 3
      fun y => { y with proof := p, miss := 1 })
    let gain := run (.checkPosition 750 0xFF) (s .unproven)
    let loss := run (.checkPosition 750 0xE7) (s .proven)
    (s .proven).closure.state = .stop ∧ (s .proven).phase = .running ∧ bothRed (s .unproven) = false ∧
      bothRed gain = true ∧ gain.closure.clearance.isRunning = true ∧ gain.closure.held = false ∧
      bothRed (s .proven) = true ∧ bothRed loss = false ∧ loss.closure.held = true ∧
      (run (.checkPosition 750 0xFF) (s .proven)).signals.redProven2 = (s .proven).signals.redProven2 := by
  decide +kernel
/-! ## Witnesses: gates and penstock -/

/-- DwellExpiryStartsMotor: a barrier up, a permitted barrier down, the penstock at a Stop Count, and a drive in
another state. -/
theorem witness_DwellExpiryStartsMotor :
    let s (d : DriveId) (x : Direction) := (State.reset.modDrive d fun y =>
      { y with state := .dwell, pending := x, dwell := .running 0, permit := true }).modStem
        fun y => { y with count := 9, stopCount := some 10 }
    let up := s (.barrier .one) .up
    let down := s (.barrier .one) .down
    let pen := s .penstock .up
    up.phase = .running ∧ (up.drive (.barrier .one)).dwell.isRunning = true ∧
      (up.drive (.barrier .one)).state = .dwell ∧ (up.drive (.barrier .one)).pending = .up ∧
      up.limit (.barrier .one) true = false ∧ (down.drive (.barrier .one)).pending = .down ∧
      down.limit (.barrier .one) false = false ∧ (down.drive (.barrier .one)).permit = true ∧
      down.level (.obstruction .one) = false ∧ (pen.drive .penstock).state = .dwell ∧
      (pen.drive .penstock).dwell.isRunning = true ∧ pen.limit .penstock true = false ∧
      pen.gates.stem.seatFlag = false ∧ pen.gates.stem.stopCount = some 10 ∧ pen.gates.stem.count < 10 ∧
      (up.drive (.barrier .two)).state ≠ .dwell ∧ (up.drive (.barrier .two)).dwell.isRunning = true := by decide
/-- MotionTimersFault: a barrier in LOWERING, and the penstock's stall. -/
theorem witness_MotionTimersFault :
    let s := roadAt .lowering (State.reset.modDrive (.barrier .two) fun y =>
      { y with state := .drivingDown, travel := .running 0 })
    let t := (State.reset.modDrive .penstock fun y => { y with state := .drivingUp }).modStem
      fun y => { y with stall := .running 0 }
    s.phase = .running ∧ (s.drive (.barrier .two)).isDriving = true ∧
      (s.drive (.barrier .two)).travel.isRunning = true ∧ s.closure.state = .lowering ∧
      (t.drive .penstock).isDriving = true ∧ t.gates.stem.stall.isRunning = true := by decide
/-- EncoderEdgeCounts: a motion one count short of its Stop Count, and a Seat Flag at its band. -/
theorem witness_EncoderEdgeCounts :
    let s := ((State.reset.modDrive .penstock fun y => { y with state := .drivingUp }).modStem
      fun y => { y with count := 9, stopCount := some 10 }).modPenstock fun y => { y with target := .position }
    let f := State.reset.modStem fun y => { y with count := 200, seatBand := 200, seatFlag := true }
    s.phase = .running ∧ s.gates.stem.stopCount = some 10 ∧ s.penstock.target ≠ .closed ∧
      s.gates.penstock.state = .drivingUp ∧ 10 ≤ min 65535 (s.gates.stem.count + 1) ∧
      f.gates.stem.seatFlag = true ∧ (run (.acceptedEdge .b) f).gates.stem.seatFlag = true ∧
      (run (.acceptedEdge .a) f).gates.stem.seatFlag = false := by decide +kernel
/-- A commit that lowers the Seat Band leaves a seat as it was judged, at a falling count and a rising one
(R115). -/
theorem test_seatBand_kept :
    let f := State.reset.modStem fun y => { y with count := 199, seatBand := 300, seatFlag := true }
    let c : State := { f with profile := { f.profile with active := builtinWords.set 0xD4 100 } }
    (run (.acceptedEdge .b) c).gates.stem.seatFlag = true ∧
      (run (.acceptedEdge .a) c).gates.stem.seatFlag = true := by decide +kernel
/-- DoubleTransitionLosesReference: a REFERENCED penstock under a link's POSITION target, and another target. -/
theorem witness_DoubleTransitionLosesReference :
    let s := (setAuthority .penstock (.link .a) State.reset).modStem fun y => { y with referenced := true }
    let p := s.modPenstock fun y => { y with target := .position }
    p.phase = .running ∧ p.gates.stem.referenced = true ∧ p.penstock.target = .position ∧
      p.authority.penstock = .link .a ∧ s.penstock.target ≠ .position := by decide
/-- OpenDelayOpensPenstock, the margins met exactly under AUTO, and under a link. -/
theorem witness_OpenDelayOpensPenstock :
    let s := (((site.modPenstock fun y => { y with openDelay := .running 0 }).modSump
      fun y => { y with valid := true, level := 1000 }).modChannel .river
        fun y => { y with state := .healthy, reported := 1000 - Param.openMargin site.prof }).modDrive .penstock
          fun y => { y with state := .stopped, dwell := .expired }
    s.phase = .running ∧ s.penstock.openDelay.isRunning = true ∧ s.profile.site = true ∧
      s.channels.river.state = .healthy ∧ s.sump.valid = true ∧
      s.channels.river.reported < s.sump.level + Param.closeMargin s.prof ∧
      s.channels.river.reported + Param.openMargin s.prof ≤ s.sump.level ∧ s.authority.penstock = .auto ∧
      s.penstock.target ≠ .open ∧ s.gates.penstock.state = .stopped ∧
      s.gates.penstock.dwell.isRunning = false ∧ s.limit .penstock true = false ∧
      (setAuthority .penstock (.link .a) s).authority.penstock ≠ .auto := by decide +kernel

/-! ## Witnesses: road -/

/-- ConfirmStartsClosure: a flag set with no trigger in each Closure State, under AUTO and under HAND; a re-close
that goes through LOWERING to CLOSED, with both down limits still active; a
trigger that stands already; ROAD_FLOOD clearing. -/
theorem witness_ConfirmStartsClosure :
    let s := (roadAt .open State.reset).modClosure fun y => { y with confirm := .running 0 }
    let d := s.modClosure fun y => { y with depth := true }
    let f (x : ClosureState) := changing (.float .roadFlood) true (roadAt x State.reset)
    let h := changing (.float .roadFlood) true State.reset
    let down := changing (.float .roadFlood) false (s.modClosure fun y => { y with roadFlood := true })
    let reclosing := input (.downLimit (.barrier .one)) true (input (.downLimit (.barrier .two)) true
      (redsProven (roadAt .raising s)))
    RedDerived s ∧ (∀ x, RedDerived (f x)) ∧ RedDerived down ∧ RedDerived reclosing ∧
      bothRed reclosing = true ∧ reclosing.closure.state = .raising ∧
      (run .confirmTimerExpiry reclosing).closure.state = .closed ∧
      s.phase = .running ∧ s.closure.confirm.isRunning = true ∧ s.closure.trigger = false ∧
      s.closure.state = .open ∧ s.authority.road ≠ .hand ∧
      (setAuthority .road .hand s).authority.road = .hand ∧ s.closure.advised = false ∧
      d.closure.trigger = true ∧ d.closure.advised = advisedNow d ∧
      (∀ x ∈ [ClosureState.open, .alert, .stop, .lowering, .closed, .raising, .halted],
        (f x).closure.state = x ∧ (f x).closure.trigger = false) ∧
      ((f .open).inputs.get (.float .roadFlood)).timer.isRunning = true ∧
      ((f .open).inputs.get (.float .roadFlood)).pin = true ∧ (f .open).level (.float .roadFlood) = false ∧
      h.closure.state = .halted ∧ h.closure.halt = .resetMidTravel ∧
      (down.inputs.get (.float .roadFlood)).pin = false ∧ down.level (.float .roadFlood) = true ∧
      (down.inputs.get (.float .roadFlood)).timer.isRunning = true ∧
      advisedNow (down.modClosure fun y => { y with roadFlood := false }) = false := by
  refine ⟨⟨by decide, by decide⟩, fun _ => ⟨rfl, rfl⟩, ⟨by decide, by decide⟩, ⟨by decide, by decide⟩, ?_⟩
  decide +kernel
/-- AlertEndsInStop, with the reds dark. -/
theorem witness_AlertEndsInStop :
    let s := writeAspects (aspectsOf .alert)
      ((roadAt .alert State.reset).modClosure fun y => { y with alert := .running 0 })
    s.phase = .running ∧ s.closure.state = .alert ∧ s.closure.alert.isRunning = true ∧
      (∀ n : SignalId, n = 0 ∨ n = 1 ∨ n = 3 ∨ n = 4 → s.displayed n = .dark) := by decide +kernel
/-- ClearanceEndsInLowering: with both approaches proved, and with a barrier FAULTED. -/
theorem witness_ClearanceEndsInLowering :
    let s := ([0, 3] : List SignalId).foldl
      (fun s n => s.modSignal n fun y => { y with proof := .proven })
      ([DriveId.barrier .one, .barrier .two].foldl
        (fun s d => s.modDrive d fun y => { y with dwell := .expired })
        ((roadAt .stop State.reset).modClosure fun y => { y with clearance := .running 0 }))
    let f := s.modDrive (.barrier .two) fun y => { y with state := .faulted }
    s.phase = .running ∧ s.closure.state = .stop ∧ s.closure.clearance.isRunning = true ∧
      s.signals.lampTest = false ∧ (∀ n : SignalId, (s.signal n).commanded = (aspectsOf .stop)[n]) ∧
      (s.signal 0).proof = .proven ∧ (s.signal 3).proof = .proven ∧
      (s.drive (.barrier .one)).state = .stopped ∧ (s.drive (.barrier .one)).dwell.isRunning = false ∧
      s.limit (.barrier .one) false = false ∧ s.level (.obstruction .one) = false ∧
      (s.drive (.barrier .two)).state = .stopped ∧ (s.drive (.barrier .two)).dwell.isRunning = false ∧
      s.limit (.barrier .two) false = false ∧ s.level (.obstruction .two) = false ∧
      (f.drive (.barrier .two)).state = .faulted ∧
      (input (.downLimit (.barrier .one)) true (input (.downLimit (.barrier .two)) true s)).limit
        (.barrier .one) false = true := by decide +kernel
/-- ClearWaitEndsInDescent. -/
theorem witness_ClearWaitEndsInDescent :
    let s := ((roadAt .lowering State.reset).modClosure fun y =>
      { y with phase2 := .clearWait, clearWait2 := .running 0 }).modDrive (.barrier .two)
        fun y => { y with permit := true, dwell := .expired }
    s.phase = .running ∧ s.closure.state = .lowering ∧ (s.closure.clearWait .two).isRunning = true ∧
      s.closure.phase .two = .clearWait ∧ (s.drive (.barrier .two)).permit = true ∧
      (s.drive (.barrier .two)).state = .stopped ∧ (s.drive (.barrier .two)).dwell.isRunning = false ∧
      s.limit (.barrier .two) false = false ∧ s.level (.obstruction .two) = false := by decide

/-! ## Witnesses: links and profile -/

/-- SilenceReturnsUnits: a link that holds a unit and owns an edit, and one that owns none. -/
theorem witness_SilenceReturnsUnits :
    let s := holding .a .road
    let o : State := { s with profile := { s.profile with owner := some .a } }
    s.phase = .running ∧ (s.link .a).state = .active ∧ (s.link .a).silence.isRunning = true ∧
      s.authorityOf .road = .link .a ∧ s.profile.owner ≠ some .a ∧ o.profile.owner = some .a := by decide
/-- NvWriteCompletes: a write in flight, and none; a channel UNCALIBRATED, and one not; a SITE source. -/
theorem witness_NvWriteCompletes :
    let s : State := { site with profile := { site.profile with commit := .writing } }
    s.phase = .running ∧ s.profile.commit = .writing ∧ State.reset.profile.commit ≠ .writing ∧
      (s.channel .river).state = .uncalibrated ∧
      ((s.modChannel .river fun y => { y with state := .healthy }).channel .river).state ≠ .uncalibrated ∧
      s.profile.site = true := by decide
/-- NvWriteCompletes, the blocks' rules: with no sump channel and no CARRIAGEWAY UNCALIBRATED, a commit that removes
pump 1, in STARTING and QUEUED, installs pump 2, and lowers Max Running Pumps below stage 2, which pump 3 serves in
RUNNING with Min Run over and with it running; a stage above the new Installed Stages; a sump on FLOATS. -/
theorem witness_commitActs :
    let w := builtinWords |>.set 0x58 0
    let n := builtinWords |>.set 0x50 0 |>.set 0x06 1 |>.set 0x19 700
    let s (x : PumpState) (timer : Timer) : State :=
      let s := ((pumpAt x site).modPump 2 fun y => { y with state := .running, timer := timer }).modStage 1
        fun _ => { called := true, basis := .float, assigned := some 2 }
      let s := [ChannelId.sumpA, .sumpB, .carriageway].foldl
        (fun s c => s.modChannel c fun y => { y with state := .waiting }) s
      { s with profile := { s.profile with active := w, staging := n, commit := .writing } }
    let lit := (s .idle .expired).modLighting fun y => { y with stage := 2 }
    (∀ x ∈ [PumpState.starting, .queued, .resting], ∀ timer ∈ [Timer.expired, .running 3],
        (s x timer).phase = .running ∧ (s x timer).profile.commit = .writing ∧
        (s x timer).profile.site = true ∧
        (∀ c, c = .sumpA ∨ c = .sumpB → ((s x timer).channel c).state ≠ .uncalibrated) ∧
        (s x timer).channels.carriageway.state ≠ .uncalibrated ∧ ((s x timer).pump 0).state = x ∧
        ((s x timer).pump 2).state = .running ∧ ((s x timer).pump 2).timer = timer) ∧
      Param.installed w 0 = true ∧ Param.installed n 0 = false ∧ Param.installed w 1 = false ∧
      Param.installed n 1 = true ∧ Param.installed n 2 = true ∧ min 4 (Param.maxRunning n) ≤ (1 : StageId).val ∧
      (0 : StageId).val < min 4 (Param.maxRunning n) ∧ ((s .idle .expired).stage 1).called = true ∧
      Param.zeroWidth w .sumpB ≠ Param.zeroWidth n .sumpB ∧ Param.zeroWidth w .sumpA = Param.zeroWidth n .sumpA ∧
      1 ≤ Param.installedStages n ∧ Param.installedStages n < lit.lighting.stage ∧
      (s .idle .expired).lighting.stage ≤ Param.installedStages n ∧ 1 ≤ (s .idle .expired).lighting.stage ∧
      State.reset.sump.source = .floats ∧ (State.reset.channel .sumpA).state ≠ .healthy := by
  refine ⟨fun x hx timer ht => ⟨rfl, rfl, rfl, fun c hc => ?_, ?_, rfl, rfl, rfl⟩, ?_⟩
  · rcases hc with rfl | rfl <;> exact fun h => nomatch (show ChannelState.waiting = .uncalibrated from h)
  · exact fun h => nomatch (show ChannelState.waiting = .uncalibrated from h)
  · decide +kernel
/-- IgnoredFrames: a part that is not held, a valid frame in STARTING, a part held, and a link that ignores
select or is in a frame. -/
theorem witness_IgnoredFrames :
    let f := run (.status ⟨.b, .first⟩ 0) State.reset
    let g := run .resetPin f
    State.reset.phase ≠ .held ∧ isDefinedCommand 0x00 = false ∧ (State.reset.link .b).select = .released ∧
      starting.phase = .starting ∧ (starting.link .b).select = .released ∧
      frameOf (.hardReset ⟨.b, .whole⟩ 1) = some (⟨.b, .whole⟩, 1) ∧
      Instr.hardReset ⟨.b, .whole⟩ 1 ≠ .hardReset ⟨.b, .whole⟩ 0 ∧
      (run .resetPin State.reset).phase = .held ∧
      ((run .resetPin State.reset).link .b).select = .released ∧
      (f.link .b).select = .framing 0x01 .status ∧ (g.link .b).select = .ignored ∧
      ((run .resetRelease g).link .b).select = .ignored ∧
      ((run (.status ⟨.b, .last⟩ 0) (run .resetRelease g)).link .b).select = .released := by decide +kernel
/-- LinkCommandFrames: addresses at and past the last; an empty FIFO and one that is not; a frame in progress; a
SILENT link. -/
theorem witness_LinkCommandFrames :
    let silent := State.reset.modLink .a fun y => { y with state := .silent }
    State.reset.phase = .running ∧ (State.reset.link .a).select = .released ∧
      (begun State.reset .a).linkA.state = .restarted ∧ (begun silent .a).linkA.state = .active ∧
      (State.reset.link .a).fifo = [] ∧ ([7] : List Byte).length ≤ 1 ∧
      (0x03 : Byte).toNat * 256 + (0xFF : Byte).toNat ≤ 0x3FF ∧
      0x3FF < (0x04 : Byte).toNat * 256 + (0x00 : Byte).toNat ∧
      ((queued .a 0x14E 0 State.reset).link .a).fifo ≠ [] ∧
      ((run (.status ⟨.a, .first⟩ 2) State.reset).link .a).select = .framing 0x01 .status := by decide +kernel
/-- A STATUS frame polls READY: a word that the Image Port applies between two of its bytes shows in the second
(R164). -/
theorem test_status_polls :
    let s := run (.status ⟨.a, .first⟩ 1) (queued .a 0x000 7 State.reset)
    let t := run (.status ⟨.a, .last⟩ 1) (run (.readOnlyOrUnmappedWrite .a 0x000 7) s)
    (t.link .a).dataOut = [0x80, 0x80, 0xE0] := by decide +kernel
/-- ReadFrames: an empty FIFO, and one that is not; a frame before a word, within one, and in a snapshot. -/
theorem witness_ReadFrames :
    let far := State.reset.modLink .a fun y => { y with readPtr := 0x1FF }
    (active .a State.reset).phase = .running ∧ ((active .a State.reset).link .a).select = .released ∧
      ((active .a State.reset).link .a).fifo = [] ∧
      ((queued .a 0x14E 0 (active .a State.reset)).link .a).fifo ≠ [] ∧
      ((run (.readInc ⟨.a, .first⟩ 2) State.reset).link .a).select = .framing 0x20 (.read true none) ∧
      ((run (.readFixed ⟨.a, .first⟩ 1) far).link .a).select = .framing 0x21 (.read false (some 0)) ∧
      ((run (.readRecord ⟨.a, .first⟩ 0) far).link .a).select = .framing 0x22 (.record [0, 0]) := by decide +kernel
/-- ReadFrames, `imageShows` (12.1, 12.2): a word of a record, and an address of none; the part code, and the
Duty Rotation of a part whose four pumps stand in it. -/
theorem test_imageWords :
    (imageRecords State.reset .a).any (fun r => r.1 == 0x060 && r.2[1]? == some 0x1234) = true ∧
      (imageRecords State.reset .a).all (fun r => !(r.1 ≤ 0x157 && 0x157 < r.1 + r.2.length)) = true ∧
      imageWord State.reset .a 0x000 = 0x2460 ∧ imageWord State.reset .a 0x061 = 0x1234 ∧
      imageWord State.reset .a 0x157 = 0 := by decide +kernel
/-- WriteFrames: an ACTIVE link with half a word over, a RESTARTED and a SILENT one; a frame in progress. -/
theorem witness_WriteFrames :
    State.reset.phase = .running ∧ ([7] : List Byte).length ≤ 1 ∧ (State.reset.link .a).select = .released ∧
      ((active .a State.reset).link .a).state = .active ∧ (State.reset.link .a).state = .restarted ∧
      ((State.reset.modLink .a fun y => { y with state := .silent }).link .a).state = .silent ∧
      ((run (.writeFixed ⟨.a, .first⟩ [1, 2]) (active .a State.reset)).link .a).select =
        .framing 0x31 (.write false none) := by decide +kernel
/-- LinkStatusByte: a link whose Read Pointer stands in its own Link record, and a part held. -/
theorem witness_LinkStatusByte :
    let s := (active .b State.reset).modLink .b fun y => { y with readPtr := 0x18F, refusal := true }
    s.phase = .running ∧ (s.link .b).select = .released ∧ (s.link .b).fifo = [] ∧
      recordAt (s.link .b).readPtr.toNat = some (0x188, 8) ∧
      (run .resetPin State.reset).phase = .held := by decide
/-- AttentionLine: one entry unread, nothing unread, a part held, a part starting up. -/
theorem witness_AttentionLine :
    let s := (active .a State.reset).modLink .a fun y => { y with unread := some 1 }
    s.phase = .running ∧ (s.link .a).state = .active ∧ (s.link .a).unread = some 1 ∧
      (s.underCursor .a).map (·.seq) = some 2 ∧ ((active .a State.reset).link .a).unread = some 0 ∧
      ((queued .a 0x196 2 s).link .a).fifo = [(0x196, 2)] ∧
      (run .resetPin State.reset).phase = .held ∧ starting.phase = .starting := by decide

/-! ## Witnesses: applied words -/

/-- WordsJudged: a word on a part that does not run, behind another, at the front, with an empty FIFO; and a
well-formed word for each reason. -/
theorem witness_WordsJudged :
    let w (a : Addr) (v : Word) := (Instr.readOnlyOrUnmappedWrite .a a v).wellFormed
    appliedWord (.take .a .road) = some (.a, 0x145, 1) ∧ starting.phase ≠ .running ∧
      ((queued .a 0x145 2 State.reset).link .a).fifo = [(0x145, 2)] ∧
      ((queued .a 0x145 1 State.reset).link .a).fifo = [(0x145, 1)] ∧ (State.reset.link .a).fifo = [] ∧
      w 0x1FF 1 = true ∧ isMapped 0x1FF = false ∧ w 0x147 1 = true ∧ isWritable 0x147 = false ∧
      w 0x146 3 = true ∧ w 0x14B 2 = true ∧ w 0x14C 4 = true ∧ w 0x14E 4 = true ∧ w 0x150 2 = true ∧
      w 0x158 0 = true ∧ w 0x1A0 4 = true := by decide
/-- TakeAndRelease: each row of R149, and both outcomes of a RELEASE. -/
theorem witness_TakeAndRelease :
    RedDerived State.reset ∧ RedDerived (active .a State.reset) ∧ RedDerived (active .a site) ∧
      RedDerived (holding .a .road) ∧
      (State.reset.link .a).state ≠ .active ∧ (active .a State.reset).profile.site = false ∧
      (setAuthority .road .hand (active .a site)).authorityOf .road = .hand ∧
      (holding .a .road).authorityOf .road = .link .a ∧ ((holding .a .road).link .a).state = .active ∧
      (active .b (holding .a .road)).authorityOf .road ≠ .link .b ∧
      (active .a site).authorityOf .penstock = .auto ∧ (active .a site).phase = .running ∧
      ((active .a site).link .a).fifo = [] := by
  unfold RedDerived
  decide
/-- TakeAndRelease, `takenByLink` and `returnedToAuto`: a pump taken in each State, with a stage and without;
one released to a stage that waits, QUEUED and IDLE, with the conditions of R25, and to none; and the lighting. -/
theorem witness_unitsFollow :
    let ready (s : State) := input (.float .dry) true (s.modLoad fun x => { x with budget := 1 })
    let take (x : PumpState) (d : Timer) := active .a (ready { served x d with
      profile := site.profile, rotation := [0, 1] })
    let held (x : PumpState) : State := ready (pumpAt x (holding .a (.pump 0)))
    let call (s : State) := s.modStage 0 fun _ => { called := true, basis := .float, assigned := none }
    let released (x : PumpState) := run (.release .a (.pump 0)) (call { held x with rotation := [] })
    let lamps := (holding .a .lighting).modGroup 0 fun y => { y with requested := 1, source := .linkFixed }
    (∀ x ∈ [PumpState.idle, .queued, .starting, .running, .stopping, .resting, .faulted],
      ((take x .expired).pump 0).state = x ∧ (take x .expired).authorityOf (.pump 0) = .auto ∧
      RedDerived (take x .expired) ∧ RedDerived (held x)) ∧
      ((take .running (.running 3)).pump 0).timer.isRunning = true ∧
      ((run (.take .a (.pump 0)) (take .running .expired)).stage 0).assigned = some 1 ∧
      ((run (.take .a (.pump 0)) (take .running .expired)).pump 0).stopCause = .callEnded ∧
      (held .queued).installed 0 = true ∧ (0 : PumpId) ∉ ({ held .queued with rotation := [] } : State).rotation ∧
      queueable (held .queued) 0 ∧ ((held .queued).pump 0).requeue = false ∧
      ((released .queued).stage 0).assigned = some 0 ∧ ((released .queued).pump 0).state = .queued ∧
      ((released .idle).pump 0).state = .queued ∧ ((released .running).stage 0).assigned = some 0 ∧
      ¬ queueable (input (.float .dry) false (served .idle .stopped)) 0 ∧
      ((run (.release .a (.pump 0)) (held .queued)).pump 0).state = .idle ∧
      lamps.profile.site = true ∧ lamps.authorityOf .lighting = .link .a ∧
      ((run (.release .a .lighting) lamps).group 0).source = .stage ∧
      (run (.release .a .lighting) lamps).load.evalDue = true := by
  unfold RedDerived
  decide +kernel
/-- TakeAndRelease, the keys: each turned to a local position and back; a pump's key moved between HAND and
OFF, and a contact that moves no position; a pump on, QUEUED and IDLE, with the conditions of R25; each road.
-/
theorem witness_keys :
    let s (i : InputId) (pin : Bool) (s : State) := changing i pin s
    let hand (u : UnitId) := setAuthority u .hand State.reset
    let off := qualified (s (.keyOff 0) true (pumpAt .running State.reset)) (.keyOff 0)
    let on := qualified (s (.keyHand 0) true (input (.float .dry) true
      (State.reset.modLoad fun x => { x with budget := 1 }))) (.keyHand 0)
    let back := qualified (s (.keyHand 0) false (hand (.pump 0))) (.keyHand 0)
    let moved := s (.keyOff 0) true (input (.keyHand 0) true (hand (.pump 0)))
    let kept := s (.keyHand 0) false (input (.keyOff 0) true (hand (.pump 0)))
    let road := (setAuthority .road .hand (roadAt .open State.reset)).modClosure fun y => { y with depth := true }
    (∀ i b x, RedDerived x → RedDerived (s i b x)) ∧ RedDerived State.reset ∧ RedDerived off ∧ RedDerived on ∧
      RedDerived back ∧ RedDerived moved ∧ RedDerived kept ∧ RedDerived road ∧
      ((s .roadKey true State.reset).inputs.get .roadKey).timer.isRunning = true ∧
      ((s .roadKey true State.reset).inputs.get .roadKey).pin ≠ (s .roadKey true State.reset).level .roadKey ∧
      (qualified (s .roadKey true State.reset) .roadKey).keyLocal .road = true ∧
      (qualified (s .penstockKey true State.reset) .penstockKey).keyLocal .penstock = true ∧
      State.reset.authorityOf .penstock ≠ .hand ∧ off.keyLocal (.pump 0) = true ∧ off.keyOff 0 = true ∧
      off.authorityOf (.pump 0) = .auto ∧ (off.pump 0).isOn = true ∧ on.keyHand 0 = true ∧
      on.installed 0 = true ∧ (on.pump 0).state = .idle ∧ on.level (.float .dry) = true ∧
      on.runProven 0 = false ∧ 0 < on.load.budget ∧
      (pruneHistory on.stationClock (on.pump 0).history).length < Param.maxStarts on.prof 0 ∧
      back.keyLocal (.pump 0) = false ∧ back.authorityOf (.pump 0) = .hand ∧ (back.pump 0).state ≠ .faulted ∧
      moved.keyOff 0 ≠ (qualified moved (.keyOff 0)).keyOff 0 ∧
      kept.keyOff 0 = (qualified kept (.keyHand 0)).keyOff 0 ∧
      (qualified kept (.keyHand 0)).keyLocal (.pump 0) = true ∧
      (qualified (s .penstockKey false (hand .penstock)) .penstockKey).keyLocal .penstock = false ∧
      (qualified (s .roadKey false road) .roadKey).keyLocal .road = false ∧ road.closure.trigger = true ∧
      (hand .road).closure.trigger = false ∧ road.authorityOf .road = .hand ∧
      ((pumpAt .queued on).pump 0).state = .queued ∧ (pumpAt .queued on).keyHand 0 = true := by
  refine ⟨fun _ _ _ h => h, ⟨by decide, by decide⟩, ⟨by decide, by decide⟩, ⟨by decide, by decide⟩,
    ⟨by decide, by decide⟩, ⟨by decide, by decide⟩, ⟨by decide, by decide⟩, ⟨by decide, by decide⟩, ?_⟩
  decide +kernel
/-- PumpDemandWords: a holder's RUN of a pump that can queue; a STOP of one QUEUED, of one RUNNING with Min Run
running, and of one whose Min Run has expired. -/
theorem witness_PumpDemandWords :
    let s := input (.float .dry) true ((holding .a (.pump 0)).modLoad fun x => { x with budget := 1 })
    s.phase = .running ∧ (s.link .a).state = .active ∧ s.authorityOf (.pump 0) = .link .a ∧
      (s.pump 0).state = .idle ∧ s.installed 0 = true ∧ s.level (.float .dry) = true ∧
      (pruneHistory s.stationClock (s.pump 0).history).length < Param.maxStarts s.prof 0 ∧
      0 < s.load.budget ∧ s.runProven 0 = false ∧ ((pumpAt .queued s).pump 0).state = .queued ∧
      ((pumpAt .running s).pump 0).timer.isRunning = true ∧
      ((s.modPump 0 fun y => { y with state := .running, timer := .expired }).pump 0).timer.isRunning = false ∧
      s.authorityOf (.pump 1) ≠ .link .a := by decide
/-- PenstockWords: unreferenced; referenced with Backflow, at and above the Position; without Backflow; Action
POSITION and another. -/
theorem witness_PenstockWords :
    let s := holding .a .penstock
    let r := s.modStem fun y => { y with referenced := true }
    let b := r.modPenstock fun y => { y with backflow := true }
    s.phase = .running ∧ (s.link .a).state = .active ∧ s.authority.penstock = .link .a ∧
      s.gates.stem.referenced = false ∧ r.gates.stem.referenced = true ∧ r.penstock.backflow = false ∧
      b.penstock.backflow = true ∧ b.position < 1 ∧ 0 ≤ b.position ∧
      s.authority.demands.action ≠ .position ∧
      (s.modDemands fun y => { y with action := .position }).authority.demands.action = .position ∧
      (holding .a .road).authority.penstock ≠ .link .a := by decide
/-- PenstockWords, `driveCommanded`: a drive in each State with a command in its direction, in the other, and
STOP; for the start, an active limit, a set Seat Flag, a Stop Count reached and one not, a dwell that governs and
one that does not, a barrier with its permit under OBSTRUCTION and without; a Stop Count while UNREFERENCED. -/
theorem witness_driveCommanded :
    let p (f : Drive → Drive) := (State.reset.modStem fun y => { y with referenced := true, count := 5 }).modDrive
      .penstock fun y => f { y with state := .stopped, dwell := .expired }
    let b (d : Timer) (permit : Bool) := State.reset.modDrive (.barrier .one)
      fun y => { y with state := .stopped, dwell := d, lastDir := .up, permit := permit }
    let obstructed := input (.obstruction .one) true (b .expired true)
    ((p id).drive .penstock).state = .stopped ∧ (p id).limit .penstock true = false ∧
      (input (.upLimit .penstock) true (p id)).limit .penstock true = true ∧
      ((p id).modStem fun y => { y with seatFlag := true }).gates.stem.seatFlag = true ∧
      (p id).gates.stem.seatFlag = false ∧ countReached (p id) true (some 5) ∧ ¬ countReached (p id) true (some 6) ∧
      countReached (p id) false (some 5) ∧ ¬ countReached (p id) false (some 4) ∧
      State.reset.gates.stem.referenced = false ∧ (p id).gates.stem.referenced = true ∧
      ((p fun y => { y with state := .drivingUp }).drive .penstock).isDriving = true ∧
      ((p fun y => { y with state := .dwell, pending := .down }).drive .penstock).pending = .down ∧
      ((p fun y => { y with state := .faulted }).drive .penstock).state = .faulted ∧
      ((b (.running 3) true).drive (.barrier .one)).dwell.isRunning = true ∧
      ((b .expired true).drive (.barrier .one)).dwell.isRunning = false ∧
      ((b .expired true).drive (.barrier .one)).permit = true ∧
      ((b .expired false).drive (.barrier .one)).permit = false ∧
      (b .expired true).limit (.barrier .one) false = false ∧ obstructed.level (.obstruction .one) = true := by
  unfold countReached
  refine ⟨by decide, by decide, by decide, by decide, by decide, ⟨5, rfl, by decide⟩, ?_, ⟨5, rfl, by decide⟩, ?_, ?_⟩
  · rintro ⟨m, hm, h⟩
    cases hm
    revert h
    decide
  · rintro ⟨m, hm, h⟩
    cases hm
    revert h
    decide
  · decide
/-- RoadWords: every Closure State under the holder, with a carriageway that lets the road reopen, one that does
not, and the ROAD_FLOOD float; a barrier FAULTED; the barriers up. -/
theorem witness_RoadWords :
    let s (x : ClosureState) := (roadAt x (holding .a .road)).modChannel .carriageway
      fun y => { y with state := .healthy, reported := Param.reopenDepth builtinWords }
    let up := input (.upLimit (.barrier .one)) true (input (.upLimit (.barrier .two)) true (s .stop))
    (∀ x, RedDerived (s x)) ∧ RedDerived up ∧ RedDerived (redsProven (s .raising)) ∧
      (s .halted).signals.lampTest = false ∧ (∀ n : SignalId, ((s .halted).signal n).commanded = (aspectsOf .halted)[n]) ∧
      (∀ b, (roadAt .closed up).limit (.barrier b) true = true ∧ ((roadAt .closed up).drive (.barrier b)).state = .stopped) ∧
      (s .halted).phase = .running ∧ ((s .halted).link .a).state = .active ∧
      (s .halted).authority.road = .link .a ∧ (s .halted).closure.state = .halted ∧
      (s .open).closure.state = .open ∧ (s .raising).closure.state = .raising ∧ bothRed (s .raising) = false ∧
      bothRed (redsProven (s .raising)) = true ∧
      (s .stop).channels.carriageway.state = .healthy ∧
      (s .stop).channels.carriageway.reported ≤ Param.reopenDepth (s .stop).prof ∧
      (s .stop).level (.float .roadFlood) = false ∧ (s .stop).closure.trigger = false ∧
      (input (.float .roadFlood) true (s .stop)).level (.float .roadFlood) = true ∧
      (holding .a .road).channels.carriageway.state ≠ .healthy ∧ barriersUp up = true ∧
      barriersUp (s .stop) = false ∧ (s .stop).limit (.barrier .one) true = false ∧
      ((s .stop).drive (.barrier .one)).state = .stopped ∧ ((s .stop).drive (.barrier .two)).state = .stopped ∧
      (((s .halted).modDrive (.barrier .one) fun y =>
        { y with state := .faulted }).drive (.barrier .one)).state = .faulted := by
  refine ⟨fun _ => ⟨rfl, rfl⟩, ⟨by decide, by decide⟩, ⟨by decide, by decide⟩, by decide, by decide,
    fun b => by cases b <;> decide, ?_⟩
  decide +kernel
/-- RoadWords, the buttons: each becoming active, under HAND and not, in a state; a FAULTED barrier that bars
RAISING, and both barriers up in STOP. -/
theorem witness_roadButtons :
    let s (b : PanelButton) (x : ClosureState) := changing (.button b) true (roadAt x (setAuthority .road .hand State.reset))
    let up := input (.upLimit (.barrier .one)) true (input (.upLimit (.barrier .two)) true (s .reopen .stop))
    let f := (s .reopen .closed).modDrive (.barrier .one) fun y => { y with state := .faulted }
    (∀ b x, RedDerived (s b x)) ∧
      (∀ b ∈ [PanelButton.close, .reopen], ∀ x ∈ [ClosureState.open, .stop, .raising, .closed, .halted],
        (s b x).phase = .running ∧ ((s b x).inputs.get (.button b)).timer.isRunning = true ∧
        ((s b x).inputs.get (.button b)).pin = true ∧ (s b x).level (.button b) = false ∧
        (s b x).authority.road = .hand ∧ (s b x).closure.state = x ∧ (s b x).closure.trigger = false) ∧
      State.reset.authority.road ≠ .hand ∧ barriersUp up = true ∧ up.closure.state = .stop ∧
      f.closure.state = .closed ∧ (f.drive (.barrier .one)).state = .faulted ∧
      ((s .reopen .closed).drive (.barrier .one)).state = .stopped ∧
      (s .reopen .closed).limit (.barrier .one) true = false := by
  refine ⟨fun _ _ => ⟨rfl, rfl⟩, ?_⟩
  decide +kernel
/-- LightingWords: a holder in both modes. -/
theorem witness_LightingWords :
    let s := holding .a .lighting
    s.profile.site = true ∧ s.phase = .running ∧ (s.link .a).state = .active ∧
      s.authority.lighting = .link .a ∧ s.authority.demands.fixed = false ∧
      (s.modDemands fun y => { y with fixed := true }).authority.demands.fixed = true := by decide
/-- ClearWord: each row of R156; a FAULTED pump, drive, channel and group. -/
theorem witness_ClearWord :
    let s := active .a State.reset
    RedDerived s ∧ (State.reset.link .a).state ≠ .active ∧ (s.link .a).state = .active ∧ s.phase = .running ∧
      (setAuthority .road .hand s).authorityOf .road = .hand ∧
      (setAuthority .road (.link .b) s).authorityOf .road = .link (otherLink .a) ∧
      s.authorityOf .road = .auto ∧ ((pumpAt .faulted s).pump 0).state = .faulted ∧
      s.level (.tripped 0) = false ∧ s.installed 0 = true ∧
      ((s.modDrive .penstock fun y => { y with state := .faulted }).drive .penstock).state = .faulted ∧
      ((s.modSignal 2 fun y => { y with proof := .failed }).signal 2).proof = .failed ∧
      ((s.modGroup 5 fun y => { y with fault := .latched }).group 5).fault = .latched ∧
      s.level (.driverFault 5) = false := by
  refine ⟨⟨by decide, by decide⟩, ?_⟩
  decide
/-- ClearWord, FAULT RESET: becoming active, with a FAULTED pump under AUTO that is clearable, one under a
link, and one whose TRIPPED input is active. -/
theorem witness_faultReset :
    let s := changing (.button .faultReset) true (pumpAt .faulted State.reset)
    RedDerived s ∧ s.phase = .running ∧ (s.inputs.get (.button .faultReset)).timer.isRunning = true ∧
      (s.inputs.get (.button .faultReset)).pin = true ∧ s.level (.button .faultReset) = false ∧
      clearable (qualified s (.button .faultReset)) 0 ∧ panelClears (qualified s (.button .faultReset)) (.pump 0) ∧
      ¬ panelClears (setAuthority (.pump 0) (.link .a) s) (.pump 0) ∧
      ¬ clearable (input (.tripped 0) true s) 0 ∧ ¬ panelClears (setAuthority .road (.link .b) s) .road ∧
      panelClears (setAuthority .road .hand s) .road := by
  unfold RedDerived
  decide +kernel
/-- EventQueueMoves: bounds, cursors, an entry under the cursor; a full queue with a cursor on its oldest
entry. -/
theorem witness_EventQueueMoves :
    let s := (active .a State.reset).modLink .a fun y => { y with unread := some 2 }
    let f : State := { s with events := { s.events with
      entries := List.replicate 32 { seq := 1, kind := .restart, subject := 0, detail := 0, time := 0 } } }
    EventsBounded s ∧ CursorsKept s ∧ s.phase = .running ∧ (s.link .a).state = .active ∧
      (s.underCursor .a).map (·.seq) = some 1 ∧ f.events.entries.length = 32 ∧
      ((f.modLink .a fun y => { y with unread := some 32 }).link .a).unread = some 32 := by
  refine ⟨⟨by decide, fun k n h => ?_⟩, fun k => ?_, by decide⟩
  · cases k
    · injection (show some 2 = some n from h) with h
      subst h
      decide
    · exact nomatch (show none = some n from h)
  · cases k <;> exact ⟨by decide, fun h => nomatch (show Phase.running = .starting from h)⟩
/-- EditWords: no edit open, the link's own, the other link's, a write in flight; and a profile that passes
validation. -/
theorem witness_EditWords :
    let s := active .a State.reset
    let w := builtinWords |>.set 0x40 2000 |>.set 0x41 2600 |>.set 0x42 3200 |>.set 0x43 3800
      |>.set 0x44 1200 |>.set 0x45 1500 |>.set 0x46 1800 |>.set 0x47 2100
      |>.set 0x48 2000 |>.set 0x49 2600 |>.set 0x4A 3200 |>.set 0x4B 3800
      |>.set 0x4C 1200 |>.set 0x4D 1500 |>.set 0x4E 1800 |>.set 0x4F 2100
    (State.reset.link .a).state ≠ .active ∧ (s.link .a).state = .active ∧ s.phase = .running ∧
      s.profile.owner = none ∧ s.profile.commit ≠ .writing ∧
      (s.modProfile fun y => { y with owner := some .a }).profile.owner = some .a ∧
      (s.modProfile fun y => { y with owner := some .b }).profile.owner ≠ some .a ∧
      (s.modProfile fun y => { y with commit := .writing }).profile.commit = .writing ∧
      validate builtinWords = some 0x41 ∧ validate w = none := by decide +kernel

end Sys2Proof.Tests
end

section
/-! PROOFS. When a signal channel's output is lit (R89, R181). -/

namespace Sys2Proof.Machine

/-! ## The flash phases of one cycle (R89) -/

@[simp] theorem litAt_dark (period pos : Nat) : litAt .dark period pos = false := rfl

@[simp] theorem litAt_steady (period pos : Nat) : litAt .steady period pos = true := rfl

@[simp] theorem litAt_flashA_iff (period pos : Nat) :
    litAt .flashA period pos = true ↔ pos < period / 2 :=
  decide_eq_true_iff

@[simp] theorem litAt_flashB_iff (period pos : Nat) :
    litAt .flashB period pos = true ↔ period / 2 ≤ pos :=
  decide_eq_true_iff

/-- FLASH_B takes over at the half where FLASH_A goes dark, so no position lights both. -/
theorem not_litAt_flashA_and_flashB (period pos : Nat) :
    ¬ (litAt .flashA period pos = true ∧ litAt .flashB period pos = true) := by
  rw [litAt_flashA_iff, litAt_flashB_iff]
  exact fun ⟨beforeHalf, fromHalf⟩ => Nat.not_lt_of_le fromHalf beforeHalf

/-! ## The output line (R89, R181) -/

theorem signalOutput_of_running {s : State} (h : s.phase = .running) (n : SignalId) :
    signalOutput s n = litAt (s.displayed n) s.signals.periodInUse s.signals.position := by
  simp [signalOutput, h]

theorem signalOutput_of_not_running {s : State} (h : s.phase ≠ .running) (n : SignalId) :
    signalOutput s n = false := by
  simp [signalOutput, h]

/-- Settles O33: on a running part the output is `litAt` of the Displayed Aspect, and each aspect has its own
rule there; the phases of a cycle are disjoint; a part that does not run is dark. -/
theorem signalOutputLit : Obligations.SignalOutputLit := by
  intro s n period pos
  refine ⟨fun running _ => ?_, not_litAt_flashA_and_flashB period pos, fun odd => by omega,
    fun _ => litAt_flashB_iff 1000 pos, fun held => ?_⟩
  · rw [signalOutput_of_running running]
    refine ⟨fun dark => ?_, fun steady => ?_, fun flashA => ?_, fun flashB => ?_⟩
    · rw [dark, litAt_dark]
    · rw [steady, litAt_steady]
    · rw [flashA, litAt_flashA_iff]
    · rw [flashB, litAt_flashB_iff]
  · exact signalOutput_of_not_running (by simp [held]) n

end Sys2Proof.Machine
end

section
/-! PROOFS. When a link's attention line is asserted (R174), and what an accepted acknowledge and an append do
to it (R170, R172). -/

namespace Sys2Proof.Machine

/-! ## The line as a condition on the link (R163, R174) -/

theorem LinkPort.unreadCount_pos_iff (x : LinkPort) :
    0 < x.unreadCount ↔ x.state = .active ∧ ∃ m, x.unread = some m ∧ 0 < m := by
  unfold LinkPort.unreadCount
  by_cases active : x.state = .active
  · cases unread : x.unread with
    | none => simp [active]
    | some m => simp [active]
  · simp [active]

theorem attention_iff_of_running {s : State} (h : s.phase = .running) (k : Link) :
    attention s k = true ↔ (s.link k).state = .restarted ∨
      ((s.link k).state = .active ∧ ∃ m, (s.link k).unread = some m ∧ 0 < m) := by
  rw [← LinkPort.unreadCount_pos_iff]
  simp [attention, h]

theorem attention_of_not_running {s : State} (h : s.phase ≠ .running) (k : Link) :
    attention s k = false := by
  simp [attention, h]

/-- An ACTIVE link with nothing unread releases the line, whatever the part does. -/
theorem attention_of_nothing_unread {s : State} {k : Link} (active : (s.link k).state = .active)
    (unread : (s.link k).unread = some 0) : attention s k = false := by
  simp [attention, LinkPort.unreadCount, active, unread]

/-! ## What moves the unread count (R170, R172, R173) -/

@[simp] theorem State.removePassed_link (s : State) (k : Link) : s.removePassed.link k = s.link k := by
  cases k <;> rfl

/-- The accepted case of R172: the link is ACTIVE and the value is the Sequence under its cursor. -/
theorem applyAck_of_seq_eq {s : State} {k : Link} {seq : Word} {e : Event}
    (active : (s.link k).state = .active) (under : s.underCursor k = some e) (seqEq : e.seq = seq) :
    applyAck k seq s =
      (s.modLink k fun x => { x with unread := x.unread.map (· - 1), acked := seq }).removePassed := by
  simp [applyAck, State.linkActive, under, active, seqEq]

/-- An append is unread on every link with nothing unread: not even a full queue takes an entry from such a
link, as its cursor stands past the oldest. -/
theorem append_unread_of_nothing_unread {s : State} {k : Link} (unread : (s.link k).unread = some 0)
    (kind : EventKind) (a b : Nat) : ((s.append kind a b).link k).unread = some 1 := by
  have cursorKept : ¬ (32 ≤ s.events.entries.length ∧
      (s.link k).unread = some s.events.entries.length) := by
    rintro ⟨full, onOldest⟩
    have : 0 = s.events.entries.length := Option.some.inj (unread.symm.trans onOldest)
    omega
  rw [append_unread, if_neg cursorKept, unread]
  rfl

/-! ## The line after an acknowledge and after an append (R174) -/

theorem attention_applyAck_of_last_unread {s : State} {k : Link} {seq : Word} {e : Event}
    (active : (s.link k).state = .active) (lastUnread : (s.link k).unread = some 1)
    (under : s.underCursor k = some e) (seqEq : e.seq = seq) :
    attention (applyAck k seq s) k = false := by
  rw [applyAck_of_seq_eq active under seqEq]
  apply attention_of_nothing_unread
  · rw [State.removePassed_link, State.modLink_link_self]
    exact active
  · rw [State.removePassed_link, State.modLink_link_self, lastUnread]
    rfl

theorem attention_append_of_nothing_unread {s : State} {k : Link} (running : s.phase = .running)
    (active : (s.link k).state = .active) (unread : (s.link k).unread = some 0) (kind : EventKind)
    (a b : Nat) : attention (s.append kind a b) k = true :=
  (attention_iff_of_running (s := s.append kind a b) running k).mpr
    (.inr ⟨(append_link_state s kind a b k).trans active, 1,
      append_unread_of_nothing_unread unread kind a b, Nat.one_pos⟩)

/-- Settles O51: on a running part the line is a condition on the Link State and the unread count alone; the
accepted acknowledge of the last unread entry takes that count to 0, an append takes it from 0 to 1, and a
part that does not run releases the line. -/
theorem attentionLine : Obligations.AttentionLine := by
  intro s k seq kind subject detail
  refine ⟨fun running => attention_iff_of_running running k,
    fun active lastUnread ⟨_, under, seqEq⟩ => ?_,
    fun running active unread => attention_append_of_nothing_unread running active unread kind subject detail,
    fun notRunning => ?_⟩
  · exact applies_of_portApply k 0x196 seq (applyAck k seq) s rfl
      (attention_applyAck_of_last_unread active lastUnread under seqEq)
  · apply attention_of_not_running
    rcases notRunning with held | starting
    · simp [held]
    · simp [starting]

end Sys2Proof.Machine
end
